-- ==== Sys2Proof/Word.lean ====
section
/-! DEFINITION. The word types of the block: register words, 16-bit registers, byte lanes. -/

namespace Sys2Proof

/-- A 32-bit word: a window register or a command (30_encoding.md R80). -/
abbrev Word := BitVec 32

/-- A 16-bit register, such as GEN_PERIOD (00_scope.md R7). -/
abbrev Half := BitVec 16

/-- One byte lane of a register word (20_memory.md R64). -/
abbrev Byte := BitVec 8

end Sys2Proof
end

