-- ==== Sys2Proof/Syntax.lean ====
section
/-! DEFINITION. The six commands (30_encoding.md R82), operands as the unsigned integers of R85. -/

namespace Sys2Proof

/-- A command the host writes to CMD: one constructor per row of spec/opcode_table.json. -/
inductive Instr where
  /-- PULSE freq, duty: `configure_pulse` (41_pulse_generator.md R133, R134). -/
  | pulse (freq duty : Nat)
  /-- SERVO angle: `configure_servo` (R136). -/
  | servo (angle : Nat)
  /-- MEASURE: `measure_frequency` (42_measure.md R160). -/
  | measure
  /-- READ: `read_pin` (43_gpio.md R211). -/
  | read
  /-- DRIVE level: `drive_pin` (R212). -/
  | drive (level : Bool)
  /-- HIZ: `set_high_impedance` (R213). -/
  | hiz
  deriving DecidableEq, Repr

end Sys2Proof
end

