-- ==== Sys2Proof/WellFormed.lean ====
section
/-! DEFINITION. When a command's operands fit their fields: what the assembler of 30_encoding.md R92
accepts. It accepts values that the field holds and the command later refuses (PULSE 16001, 50). -/

namespace Sys2Proof

/-- The operands fit their fields: freq and angle 16 bits, duty 8 bits (R92; a level is one bit by
its type). -/
def Instr.wf : Instr → Bool
  | .pulse freq duty => decide (freq ≤ 65535) && decide (duty ≤ 255)
  | .servo angle => decide (angle ≤ 65535)
  | .measure => true
  | .read => true
  | .drive _ => true
  | .hiz => true

/-- `Instr.wf` as a proposition. -/
abbrev Instr.WellFormed (i : Instr) : Prop := i.wf = true

end Sys2Proof
end

