-- ==== Sys2Proof/Decode.lean ====
section
/-! DEFINITION. The decoder of 30_encoding.md R91, total on every word and on any bytes, rejecting by
name; then the encoder of R92 and the assembler; then the host's view of the opcode table. -/

namespace Sys2Proof

/-- Why a word is no command. All three give the completion code ILLEGAL (R83, R84). -/
inductive DecodeError where
  /-- OP is 0x0 or 0x7 to 0xF (R83). -/
  | reservedOpcode
  /-- RSV, bits 7:4, is not 0 (R84). -/
  | reservedField
  /-- A must-be-zero bit of ARG_A or ARG_B is not 0 (R84). -/
  | operandField
  /-- The bytes are not the four lanes of one word (R80: there are no other lengths). -/
  | notOneWord
  deriving DecidableEq, Repr

/-- `w[lo+len-1:lo]`, zero-extended (00_scope.md R10). -/
def field (w : Word) (lo len : Nat) : Nat := (w.extractLsb' lo len).toNat

/-- The decoder (R91). -/
def decode (w : Word) : Except DecodeError Instr :=
  if field w 4 4 ≠ 0 then .error .reservedField
  else match field w 0 4 with
    | 1 => .ok (.pulse (field w 16 16) (field w 8 8))
    | 2 => if field w 8 8 ≠ 0 then .error .operandField else .ok (.servo (field w 16 16))
    | 3 => if field w 8 24 ≠ 0 then .error .operandField else .ok .measure
    | 4 => if field w 8 24 ≠ 0 then .error .operandField else .ok .read
    | 5 => if field w 9 23 ≠ 0 then .error .operandField else .ok (.drive (w.getLsbD 8))
    | 6 => if field w 8 24 ≠ 0 then .error .operandField else .ok .hiz
    | _ => .error .reservedOpcode

/-- The four byte lanes of a word, lane 0 (bits 7:0) first (20_memory.md R64). -/
def laneBytes (w : Word) : List Byte :=
  [w.extractLsb' 0 8, w.extractLsb' 8 8, w.extractLsb' 16 8, w.extractLsb' 24 8]

/-- The word whose lanes 0 to 3 are the given bytes (R64). -/
def wordOfLanes (b0 b1 b2 b3 : Byte) : Word :=
  b0.setWidth 32 ||| b1.setWidth 32 <<< 8 ||| b2.setWidth 32 <<< 16 ||| b3.setWidth 32 <<< 24

/-- The decoder on bytes, lane 0 first. -/
def decodeBytes : List Byte → Except DecodeError Instr
  | [b0, b1, b2, b3] => decode (wordOfLanes b0 b1 b2 b3)
  | _ => .error .notOneWord

/-- The opcode of a command (R82). -/
def opcode : Instr → Nat
  | .pulse _ _ => 1
  | .servo _ => 2
  | .measure => 3
  | .read => 4
  | .drive _ => 5
  | .hiz => 6

/-- The word of a command (R92). -/
def encode : Instr → Word
  | .pulse freq duty => BitVec.ofNat 32 (freq * 65536 + duty * 256 + 1)
  | .servo angle => BitVec.ofNat 32 (angle * 65536 + 2)
  | .measure => 3
  | .read => 4
  | .drive level => BitVec.ofNat 32 (level.toNat * 256 + 5)
  | .hiz => 6

/-- The assembler of R92: it refuses an operand that does not fit its field. -/
def assemble (i : Instr) : Option Word := if i.wf then some (encode i) else none

/-- The match of a row of spec/opcode_table.json (R90). -/
def rowMatch : Instr → Word
  | .pulse _ _ => 0x00000001
  | .servo _ => 0x00000002
  | .measure => 0x00000003
  | .read => 0x00000004
  | .drive _ => 0x00000005
  | .hiz => 0x00000006

/-- The mask of a row of spec/opcode_table.json (R90). -/
def rowMask : Instr → Word
  | .pulse _ _ => 0x000000FF
  | .servo _ => 0x0000FFFF
  | .measure => 0xFFFFFFFF
  | .read => 0xFFFFFFFF
  | .drive _ => 0xFFFFFEFF
  | .hiz => 0xFFFFFFFF

/-- The command word whose low `nbits` bits are those of `w`, every higher bit 0. -/
def tableWord (nbits w : Nat) : Word := BitVec.ofNat 32 (w % 2 ^ nbits)

/-- The instruction the decoder reads from the byte lanes of a word numbered as
spec/opcode_table.json numbers its bits. -/
def decodeTableWord (nbits w : Nat) : Option Instr :=
  match decodeBytes (laneBytes (tableWord nbits w)) with
  | .ok i => some i
  | .error _ => none

end Sys2Proof
end

