-- ==== Sys2Proof/Config.lean ====
section
/-! DEFINITION. The named parameters of 00_scope.md R9 and the free values the spec leaves to the
environment or to an implementation. A free value is opaque: nothing can be proved of it. The parameters
ride in State, so that every definition and every statement takes them as arguments (log 11). -/

namespace Sys2Proof

/-- The four prescaler ratios 1:1, 1:8, 1:64 and 1:256 (00_scope.md R8). -/
inductive Ratio where
  | r1
  | r8
  | r64
  | r256
  deriving DecidableEq, Repr

/-- The two values P_SERVO_RATIO may have (R9, 93_implementation_defined.md row 1). -/
inductive ServoRatio where
  | r64
  | r256
  deriving DecidableEq, Repr

/-- The named parameters of R9, fixed for a run. P_CAP_FIFO_DEPTH is `Config.capDepth`. -/
structure Params where
  /-- P_F_TICK, in hertz. It enters no rule's arithmetic (41_pulse_generator.md R139). -/
  fTick : Nat
  /-- P_GATE_TICKS, the source ticks of one gate window. -/
  gateTicks : Nat
  /-- P_SERVO_RATIO. -/
  servoRatio : ServoRatio
  /-- P_BASE, the bus address of the register window (20_memory.md R60). -/
  base : Nat
  /-- P_PIN_SEL, the physical line that the block's pin is (40_controller.md R113). -/
  pinSel : Nat
  deriving DecidableEq, Repr

/-- P_F_TICK in this spec (R9). -/
def Config.fTick : Nat := 16000000

/-- The parameters of a run that names no others: R9's values, P_GATE_TICKS being P_F_TICK; the two that
R9 leaves OPEN, P_BASE and P_PIN_SEL, are 0, the model's choice (log 13, log 21). -/
def Config.params : Params :=
  { fTick := Config.fTick
    gateTicks := Config.fTick
    servoRatio := .r64
    base := 0
    pinSel := 0 }

/-- One less than P_CAP_FIFO_DEPTH, which R9 leaves open but for "at least 1" (log 8). -/
opaque Config.capDepthLessOne : Nat

/-- P_CAP_FIFO_DEPTH: how many captured timestamps the capture channel can hold (R9, log 8). -/
def Config.capDepth : Nat := Config.capDepthLessOne + 1

/-- Which timestamp is lost when a capture finds the buffer full: a position in the buffer with the
new timestamp behind it. The spec gives no overflow behaviour (42_measure.md R176, log 8). -/
opaque Config.captureLost : List Word → Word → Nat

/-- The level of the n-th READ sample while the environment has said nothing of the pin: a draw
(43_gpio.md R214, log 6). -/
opaque Config.pinLevel : Nat → Bool

end Sys2Proof
end

