-- ==== Sys2Proof/Machine/State.lean ====
section
/-! DEFINITION. The state of the block as plain data (10_state.md R20 to R45), its reset value (R47),
and the reasons a step can stop. -/

namespace Sys2Proof.Machine

/-- SEQ, the sequencer phase (10_state.md R21). -/
inductive Phase where
  | idle
  | gate1
  | gate2
  | avgFirst
  | avgLoop
  deriving DecidableEq, Repr

/-- STATUS.MODE, the persisted PinMode (R31). -/
inductive PinMode where
  | io
  | pwm
  deriving DecidableEq, Repr

/-- STATUS.CODE: the completion codes of 60_exceptions.md R231; no other value is ever written. -/
inductive Code where
  | none
  | pwmDisabled
  | pwmEnabled
  | servoEnabled
  | tooLow
  | modeConflict
  | measured
  | hizSet
  | drivenHigh
  | drivenLow
  | pinLevel
  | illegal
  | range
  | precond
  | arith
  deriving DecidableEq, Repr

/-- STATUS by fields (10_state.md R26); its word is `statusWord`. -/
structure Status where
  busy : Bool
  done : Bool
  mode : PinMode
  autorange : Bool
  code : Code
  eIllegal : Bool
  eRange : Bool
  eBusy : Bool
  ePrecond : Bool
  eArith : Bool
  deriving DecidableEq, Repr

/-- RESULT_INT, RESULT_FRAC and RESULT_DIGITS (R34). -/
structure Result where
  int : Word
  frac : Word
  digits : BitVec 4
  deriving DecidableEq, Repr

/-- PCFG, the source's PulseConfig (R35). -/
structure PulseConfig where
  freq : Half
  duty : Byte
  angle : Byte
  deriving DecidableEq, Repr

/-- GEN_CFG.KIND (R36; the value 3 is never written). -/
inductive GenKind where
  | none
  | pulse
  | servo
  deriving DecidableEq, Repr

/-- The generator: GEN_CFG, GEN_PERIOD, GEN_COMPARE (R36 to R38) and the counters GC and GP (R42). -/
structure Generator where
  ratio : Ratio
  en : Bool
  kind : GenKind
  period : Half
  compare : Half
  /-- GC, the 16-bit counter. -/
  gc : Half
  /-- GP, the source ticks since GC last moved. -/
  gp : Nat
  deriving DecidableEq, Repr

/-- PIN.FUNC, the function the multiplexer binds the pin to (R39). -/
inductive PinFunc where
  | digitalIn
  | digitalOut
  | pwmOut
  | captureIn
  deriving DecidableEq, Repr

/-- PIN (R39). -/
structure Pin where
  func : PinFunc
  latch : Bool
  deriving DecidableEq, Repr

/-- The observation registers GATE_RAW1, GATE_RAW2, AVG_N, AVG_SUM_LO, AVG_SUM_HI, AVG_MEAN
(R40, R41). -/
structure Observed where
  raw1 : Word
  raw2 : Word
  avgN : Word
  sumLo : Word
  sumHi : Word
  mean : Word
  deriving DecidableEq, Repr

/-- The reference timer (R43): stopped, or running with the source ticks of its window that passed. -/
inductive RefTimer where
  | stopped
  | running (elapsed : Nat)
  deriving DecidableEq, Repr

/-- The gate counter with its prescaler and reference timer (R43). -/
structure Gate where
  /-- The edge counter, low and high halves combined (20_memory.md R67). -/
  count : Word
  /-- The gate prescaler counter: input edges since the edge counter last moved. -/
  prescaler : Nat
  ratio : Ratio
  refTimer : RefTimer
  expired : Bool
  deriving DecidableEq, Repr

/-- The pair of capture channels, the timestamp counter and the capture buffer (R44). -/
structure Capture where
  enabled : Bool
  timestamp : Word
  /-- The captured timestamps, oldest first. -/
  buffer : List Word
  deriving DecidableEq, Repr

/-- The averager's internal registers N, I, PREV and SUM (R22). -/
structure Averager where
  n : Word
  i : Word
  prev : Word
  sum : BitVec 64
  deriving DecidableEq, Repr

/-- A host access at a bus address, of a width in bytes: 00_scope.md R11's MemRead and MemWrite
(20_memory.md R62, R63). -/
inductive Access where
  | read (addr width : Nat)
  | write (addr width : Nat) (value : Word)
  deriving DecidableEq, Repr

/-- What the outside world does next, or whose turn it is (00_scope.md R14; log 2). -/
inductive Input where
  /-- The host performs a bus access. -/
  | bus (a : Access)
  /-- The sequencer's turn: it takes its next step if one is enabled. -/
  | sequencer
  /-- This many source ticks pass. -/
  | ticks (n : Nat)
  /-- This many rising edges arrive at the pin. -/
  | edges (n : Nat)
  /-- The level the pin shows from now on; `none`: the environment no longer says (log 6). -/
  | level (l : Option Bool)
  /-- The reset input is asserted (70_reset_and_hazards.md R260). -/
  | reset
  deriving DecidableEq, Repr

/-- The state of the block, its parameters, and the model's own four fields. -/
structure State where
  seq : Phase
  cmd : Word
  status : Status
  result : Result
  pcfg : PulseConfig
  gen : Generator
  pin : Pin
  obs : Observed
  gate : Gate
  capture : Capture
  avg : Averager
  /-- The parameters of 00_scope.md R9, fixed for a run: no step changes them (log 11). -/
  params : Params
  /-- The model's own: the inputs still to come, oldest first (log 2). -/
  inputs : List Input
  /-- The model's own: what the host's latest BusRead returned (log 18). -/
  reply : Option Word
  /-- The model's own: the level the environment says the pin shows (log 6). -/
  line : Option Bool
  /-- The model's own: how many READ samples have been drawn (log 6). -/
  draws : Nat
  deriving DecidableEq, Repr

/-- Why a step stops with a fault. -/
inductive Fault where
  /-- A host access narrower than 32 bits or misaligned. Raised by `Sys2Proof.Machine.busAccess`, the
  block's state unchanged (20_memory.md R63: "a fault of the host program"). Safe: the run ends where
  the block would go on (log 14). -/
  | busError
  deriving DecidableEq, Repr

/-- Why a step is refused. -/
inductive Refusal where
  /-- A command without a meaning. Raised by no arm of `exec`. Safe. -/
  | notModelled (mnemonic : String)
  /-- A host access past the 64-byte window: it is the platform's (20_memory.md R60). Raised by
  `Sys2Proof.Machine.busAccess`. Safe: the run ends (log 13). -/
  | outsideWindow
  deriving DecidableEq, Repr

/-- The generator's neutral state: GEN registers and counters 0 (R47, 40_controller.md R107). -/
def Generator.neutral : Generator :=
  { ratio := .r1, en := false, kind := .none, period := 0, compare := 0, gc := 0, gp := 0 }

/-- The gate counter at reset (R47); the ratio is the model's choice (log 10). -/
def Gate.neutral : Gate :=
  { count := 0, prescaler := 0, ratio := .r1, refTimer := .stopped, expired := false }

/-- The observation registers cleared (R47, 42_measure.md R163). -/
def Observed.cleared : Observed :=
  { raw1 := 0, raw2 := 0, avgN := 0, sumLo := 0, sumHi := 0, mean := 0 }

/-- The machine right after reset, nothing presented yet (R47). N, I, PREV and SUM are "unspecified":
0 is the model's choice (log 5). The parameters are no state that reset gives a value; a run may have any
others (log 11). -/
def State.reset : State :=
  { seq := .idle
    cmd := 0
    status :=
      { busy := false, done := false, mode := .io, autorange := false, code := .none,
        eIllegal := false, eRange := false, eBusy := false, ePrecond := false, eArith := false }
    result := { int := 0, frac := 0, digits := 0 }
    pcfg := { freq := 0, duty := 0, angle := 0 }
    gen := Generator.neutral
    pin := { func := .digitalIn, latch := false }
    obs := Observed.cleared
    gate := Gate.neutral
    capture := { enabled := false, timestamp := 0, buffer := [] }
    avg := { n := 0, i := 0, prev := 0, sum := 0 }
    params := Config.params
    inputs := []
    reply := none
    line := none
    draws := 0 }

end Sys2Proof.Machine
end

