-- ==== Sys2Proof/Machine/Flags.lean ====
section
/-! DEFINITION. STATUS: completion codes, sticky error bits, the register word and the effect of a
host write (10_state.md R26 to R33, 60_exceptions.md R231, R232). -/

namespace Sys2Proof.Machine

/-- The value of a completion code (R231). -/
def codeByte : Code → Byte
  | .none => 0x00
  | .pwmDisabled => 0x01
  | .pwmEnabled => 0x02
  | .servoEnabled => 0x03
  | .tooLow => 0x04
  | .modeConflict => 0x05
  | .measured => 0x06
  | .hizSet => 0x07
  | .drivenHigh => 0x08
  | .drivenLow => 0x09
  | .pinLevel => 0x0A
  | .illegal => 0x80
  | .range => 0x81
  | .precond => 0x82
  | .arith => 0x83

/-- The four errors that end a command (R232); E_BUSY ends none. -/
inductive CmdError where
  | illegal
  | range
  | precond
  | arith
  deriving DecidableEq, Repr

/-- The completion code of an error (R231). -/
def errorCode : CmdError → Code
  | .illegal => .illegal
  | .range => .range
  | .precond => .precond
  | .arith => .arith

/-- STATUS with the sticky bit of an error set (R232). -/
def setErrorBit (e : CmdError) (st : Status) : Status :=
  match e with
  | .illegal => { st with eIllegal := true }
  | .range => { st with eRange := true }
  | .precond => { st with ePrecond := true }
  | .arith => { st with eArith := true }

/-- STATUS of a command that completes with a code (40_controller.md R103). -/
def completeStatus (c : Code) (st : Status) : Status :=
  { st with code := c, busy := false, done := true }

/-- STATUS of a command that is accepted (R100). -/
def acceptStatus (st : Status) : Status := { st with done := false, busy := true }

/-- The bit of STATUS.MODE (10_state.md R31). -/
def modeBit : PinMode → Bool
  | .io => false
  | .pwm => true

/-- A field's value at bit `lo` of a register word, every other bit 0. -/
def place {n : Nat} (v : BitVec n) (lo : Nat) : Word := v.setWidth 32 <<< lo

/-- One bit at position `b` of a register word. -/
def placeBit (v : Bool) (b : Nat) : Word := place (BitVec.ofBool v) b

/-- The STATUS word (R26); the reserved bits 7:4 and 31:21 read 0 (R33). -/
def statusWord (st : Status) : Word :=
  placeBit st.busy 0 ||| placeBit st.done 1 ||| placeBit (modeBit st.mode) 2
    ||| placeBit st.autorange 3 ||| place (codeByte st.code) 8 ||| placeBit st.eIllegal 16
    ||| placeBit st.eRange 17 ||| placeBit st.eBusy 18 ||| placeBit st.ePrecond 19
    ||| placeBit st.eArith 20

/-- A host write of `v` to STATUS: each W1C bit that is 1 in `v` is cleared, nothing else (R26). -/
def clearStatus (v : Word) (st : Status) : Status :=
  { st with
    done := st.done && !v.getLsbD 1
    eIllegal := st.eIllegal && !v.getLsbD 16
    eRange := st.eRange && !v.getLsbD 17
    eBusy := st.eBusy && !v.getLsbD 18
    ePrecond := st.ePrecond && !v.getLsbD 19
    eArith := st.eArith && !v.getLsbD 20 }

end Sys2Proof.Machine
end

