-- ==== Sys2Proof/Machine/Operands.lean ====
section
/-! DEFINITION. The arithmetic on operands and counts: prescaler bands, period, duty and servo values
(41_pulse_generator.md §1, §3), decimal conversion (42_measure.md §5). -/

namespace Sys2Proof.Machine

/-- How many source ticks (or edges) advance a counter by one at this ratio (00_scope.md R8). -/
def ratioTicks : Ratio → Nat
  | .r1 => 1
  | .r8 => 8
  | .r64 => 64
  | .r256 => 256

/-- The code of a ratio in GEN_CFG.RATIO (10_state.md R36). -/
def ratioCode : Ratio → BitVec 2
  | .r1 => 0
  | .r8 => 1
  | .r64 => 2
  | .r256 => 3

/-- The prescaler ratio that P_SERVO_RATIO names (41_pulse_generator.md R136). -/
def servoPrescaler : ServoRatio → Ratio
  | .r64 => .r64
  | .r256 => .r256

/-- The prescaler ratio of the band of a frequency argument (R130, strict boundaries). -/
def bandRatio (f : Nat) : Ratio :=
  if f < 4 then .r256 else if f < 31 then .r64 else if f < 245 then .r8 else .r1

/-- The divisor paired with a ratio, a literal of R8 and R130. -/
def ratioDivisor : Ratio → Nat
  | .r256 => 62
  | .r64 => 250
  | .r8 => 2000
  | .r1 => 16000

/-- The divisor of the band of a frequency argument (R130). -/
def bandDivisor (f : Nat) : Nat := ratioDivisor (bandRatio f)

/-- `period = divisor/f - 1` (R131); it has a meaning only where the quotient is at least 1. -/
def pulsePeriod (f : Nat) : Nat := bandDivisor f / f - 1

/-- `duty_ticks = period*duty_percent/100`, multiplied first, truncated once (R132). -/
def pulseDuty (f d : Nat) : Nat := pulsePeriod f * d / 100

/-- PULSE's range check for f > 0 (R135). -/
def pulseInRange (f d : Nat) : Bool := decide (bandDivisor f / f ≠ 0) && decide (d ≤ 100)

/-- SERVO's range check (R136). -/
def servoInRange (a : Nat) : Bool := decide (a ≤ 180)

/-- The fixed servo period (R136). -/
def servoPeriod : Nat := 1250

/-- The servo compare value: the exact product, truncated once (R137, 90_conflicts.md C4). -/
def servoDuty (a : Nat) : Nat := servoPeriod * a / 3500 + 62

/-- The number of fractional digits of the decimal band of a mean period (42_measure.md R175). -/
def decimalBand (p : Nat) : Nat :=
  if 400000 < p then 5
  else if 126491 < p then 4
  else if 40000 < p then 3
  else if 12649 < p then 2
  else 1

/-- `value = (16,000,000 × 10^n) div p` (R177). -/
def decimalValue (p : Nat) : Nat := 16000000 * 10 ^ decimalBand p / p

/-- The integer part of a value (R178). -/
def decimalInt (p : Nat) : Nat := decimalValue p / 10 ^ decimalBand p

/-- The fraction of a value, the remainder (R178). -/
def decimalFrac (p : Nat) : Nat := decimalValue p % 10 ^ decimalBand p

/-- The interval between two timestamps, by 32-bit wrap-around subtraction (R172). -/
def interval (prev t : Word) : Word := t - prev

end Sys2Proof.Machine
end

