-- ==== Sys2Proof/Machine/Ops.lean ====
section
/-! DEFINITION. The shared operations: acceptance and completion of a command (this block's taking of
an exception is `failWith`; it has no return, 60_exceptions.md R237), the neutral state of the timing
peripherals, the pin, the register window, and what source ticks and edges do. -/

namespace Sys2Proof.Machine

/-- What a step answers. -/
abbrev Outcome := Host.Outcome State Fault Refusal

/-! Acceptance and completion (40_controller.md §1) -/

/-- The acceptance of a command word (R100), before it is decoded and run. -/
def accept (w : Word) (s : State) : State := { s with cmd := w, status := acceptStatus s.status }

/-- `complete(code)` (R103). -/
def complete (c : Code) (s : State) : State :=
  { s with status := completeStatus c s.status, seq := .idle }

/-- `fail(code, bit)`: this block's `raise` (00_scope.md R11, 60_exceptions.md R232). -/
def failWith (e : CmdError) (s : State) : State :=
  complete (errorCode e) { s with status := setErrorBit e s.status }

/-- A CMD write refused because a command runs (R101). -/
def refuseBusy (s : State) : State := { s with status := { s.status with eBusy := true } }

/-! The timing peripherals' neutral state (R107) -/

/-- The detach of TimingReset: an output or capture function gives way to DIGITAL_IN. -/
def detach (p : Pin) : Pin :=
  match p.func with
  | .pwmOut => { p with func := .digitalIn }
  | .captureIn => { p with func := .digitalIn }
  | .digitalIn => p
  | .digitalOut => p

/-- The capture pair disabled and its counter cleared; the buffer is NOT emptied (10_state.md R44). -/
def disableCapture (c : Capture) : Capture := { c with enabled := false, timestamp := 0 }

/-- The gate counter cleared and the reference timer stopped; R107 leaves the prescaler ratio, which
`arm` sets, as it is. -/
def disableGate (g : Gate) : Gate :=
  { g with count := 0, prescaler := 0, refTimer := .stopped, expired := false }

/-- `TimingReset()` (R107). -/
def timingReset (s : State) : State :=
  { s with
    gen := Generator.neutral
    gate := disableGate s.gate
    capture := disableCapture s.capture
    pin := detach s.pin }

/-! The generator (41_pulse_generator.md R133, R136, R138) -/

/-- TimingReset, then the generator programmed and started with GC = GP = 0, the pin bound to it and
MODE = PWM: what PULSE and SERVO share. -/
def startGenerator (r : Ratio) (k : GenKind) (period compare : Nat) (s : State) : State :=
  let n := timingReset s
  { n with
    gen :=
      { ratio := r, en := true, kind := k, period := BitVec.ofNat 16 period,
        compare := BitVec.ofNat 16 compare, gc := 0, gp := 0 }
    pin := { n.pin with func := .pwmOut }
    status := { n.status with mode := .pwm } }

/-- One source tick of the generator (R138). -/
def tickGenerator (g : Generator) : Generator :=
  if g.en then
    if g.gp + 1 = ratioTicks g.ratio then
      { g with gp := 0, gc := if g.gc = g.period then 0 else g.gc + 1 }
    else { g with gp := g.gp + 1 }
  else g

/-- `n` source ticks of the generator, one after the other. -/
def tickGeneratorTimes : Nat → Generator → Generator
  | 0, g => g
  | n + 1, g => tickGeneratorTimes n (tickGenerator g)

/-- The generator's counters after `n` source ticks; a generator that does not run keeps them. -/
def advanceGenerator (n : Nat) (g : Generator) : Generator :=
  if g.en then tickGeneratorTimes n g else g

/-- The generator's output `out` (R138). -/
def genOut (g : Generator) : Bool := g.en && decide (g.gc < g.compare)

/-- What the block does to the pin electrically (10_state.md R45). -/
inductive PinDrive where
  | highZ
  | drives (level : Bool)
  deriving DecidableEq, Repr

/-- The pin driver: a function of PIN.FUNC (R45). -/
def pinDrive (s : State) : PinDrive :=
  match s.pin.func with
  | .digitalIn => .highZ
  | .captureIn => .highZ
  | .digitalOut => .drives s.pin.latch
  | .pwmOut => .drives (genOut s.gen)

/-- What the block does to a physical line: its pin is the line P_PIN_SEL selects, and it drives no other
(40_controller.md R113). -/
def lineDrive (line : Nat) (s : State) : PinDrive :=
  if line = s.params.pinSel then pinDrive s else .highZ

/-- `Env.pinLevel()`, the level a READ samples: a draw (43_gpio.md R214, log 6). -/
def pinSample (s : State) : Bool :=
  match s.line with
  | some l => l
  | none => Config.pinLevel s.draws

/-! The gate counter (42_measure.md R164) -/

/-- `arm(r)` (R164). -/
def arm (r : Ratio) (s : State) : State :=
  { s with
    gate := { count := 0, prescaler := 0, ratio := r, refTimer := .running 0, expired := false } }

/-- Whether the gate counts edges: its window runs and has not ended (R164). -/
def gateCounts (g : Gate) : Bool :=
  match g.refTimer with
  | .stopped => false
  | .running _ => !g.expired

/-- `n` rising edges at the gate counter: every ratio-th adds 1 to the 32-bit count (R164). -/
def countEdges (n : Nat) (g : Gate) : Gate :=
  if gateCounts g then
    { g with
      count := g.count + BitVec.ofNat 32 ((g.prescaler + n) / ratioTicks g.ratio)
      prescaler := (g.prescaler + n) % ratioTicks g.ratio }
  else g

/-- `n` source ticks of the reference timer of a window of so many ticks; the expiry flag is set at the
window's end (10_state.md R43), where the timer stays (log 15). -/
def advanceRefTimer (window n : Nat) (g : Gate) : Gate :=
  match g.refTimer with
  | .stopped => g
  | .running e =>
    { g with
      refTimer := .running (min (e + n) window)
      expired := g.expired || decide (window ≤ e + n) }

/-! The capture pair (10_state.md R44) -/

/-- One timestamp captured. A full buffer loses one, of the implementation's choice (log 8). -/
def pushCapture (t : Word) (b : List Word) : List Word :=
  if b.length < Config.capDepth then b ++ [t]
  else (b ++ [t]).eraseIdx (Config.captureLost b t % (b.length + 1))

/-- `n` captures of one timestamp (log 22). -/
def pushCaptures (t : Word) : Nat → List Word → List Word
  | 0, b => b
  | n + 1, b => pushCaptures t n (pushCapture t b)

/-- `n` rising edges at the capture pair: each captures the timestamp counter (R44). -/
def captureEdges (n : Nat) (c : Capture) : Capture :=
  if c.enabled then { c with buffer := pushCaptures c.timestamp n c.buffer } else c

/-- `n` source ticks of the timestamp counter, which runs while the channels are enabled (R44,
log 9). -/
def advanceTimestamp (n : Nat) (c : Capture) : Capture :=
  if c.enabled then { c with timestamp := c.timestamp + BitVec.ofNat 32 n } else c

/-! Time and edges -/

/-- `n` source ticks pass. -/
def passTicks (n : Nat) (s : State) : State :=
  { s with
    gen := advanceGenerator n s.gen
    gate := advanceRefTimer s.params.gateTicks n s.gate
    capture := advanceTimestamp n s.capture }

/-- `n` rising edges arrive at the pin. -/
def passEdges (n : Nat) (s : State) : State :=
  { s with gate := countEdges n s.gate, capture := captureEdges n s.capture }

/-- The environment says what level the pin shows (log 6). -/
def setLine (l : Option Bool) (s : State) : State := { s with line := l }

/-- The reset event (70_reset_and_hazards.md R260); what is outside the block stays (log 19). -/
def resetEvent (s : State) : State :=
  { State.reset with
    params := s.params, inputs := s.inputs, reply := s.reply, line := s.line, draws := s.draws }

/-! The register window (10_state.md R24, 20_memory.md) -/

/-- The sixteen registers of the window. -/
inductive Reg where
  | cmd
  | status
  | resultInt
  | resultFrac
  | resultDigits
  | pcfg
  | genCfg
  | genPeriod
  | genCompare
  | pin
  | gateRaw1
  | gateRaw2
  | avgN
  | avgSumLo
  | avgSumHi
  | avgMean
  deriving DecidableEq, Repr

/-- The byte offset of a register (10_state.md R24). -/
def regOffset : Reg → Nat
  | .cmd => 0x00
  | .status => 0x04
  | .resultInt => 0x08
  | .resultFrac => 0x0C
  | .resultDigits => 0x10
  | .pcfg => 0x14
  | .genCfg => 0x18
  | .genPeriod => 0x1C
  | .genCompare => 0x20
  | .pin => 0x24
  | .gateRaw1 => 0x28
  | .gateRaw2 => 0x2C
  | .avgN => 0x30
  | .avgSumLo => 0x34
  | .avgSumHi => 0x38
  | .avgMean => 0x3C

/-- The register at a byte offset; none where no register begins. -/
def regAt : Nat → Option Reg
  | 0x00 => some .cmd
  | 0x04 => some .status
  | 0x08 => some .resultInt
  | 0x0C => some .resultFrac
  | 0x10 => some .resultDigits
  | 0x14 => some .pcfg
  | 0x18 => some .genCfg
  | 0x1C => some .genPeriod
  | 0x20 => some .genCompare
  | 0x24 => some .pin
  | 0x28 => some .gateRaw1
  | 0x2C => some .gateRaw2
  | 0x30 => some .avgN
  | 0x34 => some .avgSumLo
  | 0x38 => some .avgSumHi
  | 0x3C => some .avgMean
  | _ => none

/-- The size of the window in bytes (20_memory.md R60). -/
def windowBytes : Nat := 64

/-- GEN_CFG.KIND's code (10_state.md R36). -/
def kindCode : GenKind → BitVec 2
  | .none => 0
  | .pulse => 1
  | .servo => 2

/-- PIN.FUNC's code (R39). -/
def funcCode : PinFunc → BitVec 2
  | .digitalIn => 0
  | .digitalOut => 1
  | .pwmOut => 2
  | .captureIn => 3

/-- The PCFG word (R35). -/
def pcfgWord (p : PulseConfig) : Word := place p.freq 0 ||| place p.duty 16 ||| place p.angle 24

/-- The GEN_CFG word (R36). -/
def genCfgWord (g : Generator) : Word :=
  place (ratioCode g.ratio) 0 ||| placeBit g.en 8 ||| place (kindCode g.kind) 12

/-- The PIN word (R39). -/
def pinWord (p : Pin) : Word := place (funcCode p.func) 0 ||| placeBit p.latch 4

/-- The word a register reads as; unnamed bits read 0 (R33). -/
def readReg (r : Reg) (s : State) : Word :=
  match r with
  | .cmd => s.cmd
  | .status => statusWord s.status
  | .resultInt => s.result.int
  | .resultFrac => s.result.frac
  | .resultDigits => s.result.digits.setWidth 32
  | .pcfg => pcfgWord s.pcfg
  | .genCfg => genCfgWord s.gen
  | .genPeriod => s.gen.period.setWidth 32
  | .genCompare => s.gen.compare.setWidth 32
  | .pin => pinWord s.pin
  | .gateRaw1 => s.obs.raw1
  | .gateRaw2 => s.obs.raw2
  | .avgN => s.obs.avgN
  | .avgSumLo => s.obs.sumLo
  | .avgSumHi => s.obs.sumHi
  | .avgMean => s.obs.mean

end Sys2Proof.Machine
end

