-- ==== Sys2Proof/Machine/Gpio.lean ====
section
/-! DEFINITION. The digital I/O commands READ, DRIVE and HIZ (43_gpio.md). -/

namespace Sys2Proof.Machine

/-- The precondition MODE = IO that the three commands share (R210); otherwise PRECOND. -/
def inIoMode (run : State → State) (s : State) : Outcome :=
  match s.status.mode with
  | .io => .next (run s)
  | .pwm => .next (failWith .precond s)

/-- The pin sampled into RESULT (R211); one more draw is used (log 6). -/
def samplePin (s : State) : State :=
  complete .pinLevel
    { s with
      result := { int := if pinSample s then 1 else 0, frac := 0, digits := 0 }
      draws := s.draws + 1 }

/-- LATCH and FUNC written in one step (R212). -/
def drivePin (level : Bool) (s : State) : State :=
  complete (if level then .drivenHigh else .drivenLow)
    { s with pin := { func := .digitalOut, latch := level } }

/-- The output driver off, LATCH kept (R213). -/
def releasePin (s : State) : State :=
  complete .hizSet { s with pin := { s.pin with func := .digitalIn } }

/-- READ (R211). -/
def execRead (s : State) : Outcome := inIoMode samplePin s

/-- DRIVE level (R212). -/
def execDrive (level : Bool) (s : State) : Outcome := inIoMode (drivePin level) s

/-- HIZ (R213). -/
def execHiz (s : State) : Outcome := inIoMode releasePin s

end Sys2Proof.Machine
end

