-- ==== Sys2Proof/Machine/Measure.lean ====
section
/-! DEFINITION. Frequency measurement (42_measure.md): MEASURE and the sequencer's later phases. -/

namespace Sys2Proof.Machine

/-- `start()` (R163). -/
def startMeasure (s : State) : State :=
  let n := timingReset s
  { arm .r256 n with
    pin := { n.pin with func := .captureIn }
    status := { n.status with autorange := false }
    obs := Observed.cleared
    seq := .gate1 }

/-- MEASURE (R160): the mode check (R162), then the start. -/
def execMeasure (s : State) : Outcome :=
  match s.status.mode with
  | .pwm => .next (complete .modeConflict s)
  | .io => .next (startMeasure s)

/-- `exit_measure(code, int, frac, n)` (R179). N, I, PREV and SUM keep their last values here, and in
every later command until the averager writes each again; 10_state.md R22 leaves them any value and no
rule reads them: the model's choice (log 24). -/
def exitMeasure (c : Code) (int frac digits : Nat) (s : State) : State :=
  complete c
    { timingReset s with
      result :=
        { int := BitVec.ofNat 32 int, frac := BitVec.ofNat 32 frac,
          digits := BitVec.ofNat 4 digits } }

/-- `exit_measure_fail(ARITH, E_ARITH)` (R179): RESULT unchanged. N, I, PREV and SUM stay (log 24). -/
def exitMeasureFail (s : State) : State := failWith .arith (timingReset s)

/-- `finish_count(v)` (R166, R184). -/
def finishCount (v : Nat) (s : State) : State :=
  if v < 2 ^ 32 then exitMeasure .measured v 0 0 s else exitMeasureFail s

/-- `start_averager(c)` (R170): the drain empties the capture buffer. I, PREV and SUM stay until the
baseline writes them (log 24). -/
def startAverager (c : Word) (s : State) : State :=
  { s with
    avg := { s.avg with n := c }
    obs := { s.obs with avgN := c }
    gate := { s.gate with refTimer := .stopped }
    capture := { enabled := true, timestamp := 0, buffer := [] }
    seq := .avgFirst }

/-- The sequencer's step in GATE1 once the first window has ended (R165). -/
def gate1Step (s : State) : State :=
  let raw := s.gate.count
  let n := { s with obs := { s.obs with raw1 := raw } }
  if 0x3FFF < raw.toNat then finishCount (raw.toNat * 256) n
  else { arm .r1 n with status := { n.status with autorange := true }, seq := .gate2 }

/-- The sequencer's step in GATE2 once the second window has ended (R167 to R169). -/
def gate2Step (s : State) : State :=
  let raw := s.gate.count
  let n := { s with obs := { s.obs with raw2 := raw } }
  if raw.toNat = 0 then exitMeasure .tooLow 0 0 0 n
  else if 3999 < raw.toNat then finishCount raw.toNat n
  else startAverager raw n

/-- The sequencer's step in AVG_FIRST with a captured timestamp: the baseline (R171). -/
def avgFirstStep (t : Word) (s : State) : State :=
  { s with avg := { s.avg with prev := t, i := 0, sum := 0 }, seq := .avgLoop }

/-- `take_mean()` (R173, R174). -/
def takeMean (s : State) : State :=
  let p := s.avg.sum.toNat / s.avg.n.toNat
  let n := { s with obs := { s.obs with mean := BitVec.ofNat 32 p } }
  if p = 0 then exitMeasureFail n
  else exitMeasure .measured (decimalInt p) (decimalFrac p) (decimalBand p) n

/-- One interval accumulated (R172), before the count is compared with N. -/
def accumulate (t : Word) (s : State) : State :=
  let sum := s.avg.sum + (interval s.avg.prev t).setWidth 64
  { s with
    avg := { s.avg with sum := sum, prev := t, i := s.avg.i + 1 }
    obs := { s.obs with sumLo := sum.extractLsb' 0 32, sumHi := sum.extractLsb' 32 32 } }

/-- The sequencer's step in AVG_LOOP with a captured timestamp (R172, R173). -/
def avgLoopStep (t : Word) (s : State) : State :=
  let n := accumulate t s
  if n.avg.i = n.avg.n then takeMean n else n

/-- Whether the sequencer has an enabled step (R164, R171, R172; 70_reset_and_hazards.md R268). -/
def seqEnabled (s : State) : Bool :=
  match s.seq with
  | .idle => false
  | .gate1 => s.gate.expired
  | .gate2 => s.gate.expired
  | .avgFirst => !s.capture.buffer.isEmpty
  | .avgLoop => !s.capture.buffer.isEmpty

/-- A capture taken from the buffer, oldest first, and given to a phase (`Env.capture()`, R161);
with none available the sequencer waits. -/
def withCapture (phase : Word → State → State) (s : State) : State :=
  match s.capture.buffer with
  | [] => s
  | t :: rest => phase t { s with capture := { s.capture with buffer := rest } }

/-- A gate window's phase, once the expiry flag is set; before, the sequencer waits. -/
def withExpiry (phase : State → State) (s : State) : State :=
  if s.gate.expired then phase s else s

/-- The sequencer's turn: its enabled step, or nothing (log 17). -/
def seqTurn (s : State) : State :=
  match s.seq with
  | .idle => s
  | .gate1 => withExpiry gate1Step s
  | .gate2 => withExpiry gate2Step s
  | .avgFirst => withCapture avgFirstStep s
  | .avgLoop => withCapture avgLoopStep s

end Sys2Proof.Machine
end

