-- ==== Sys2Proof/Machine/Pulse.lean ====
section
/-! DEFINITION. The pulse generator's commands PULSE and SERVO (41_pulse_generator.md). -/

namespace Sys2Proof.Machine

/-- PULSE with FREQ = 0, the disable form (R134): the duty is not checked and not kept. -/
def disablePulse (s : State) : State :=
  let n := timingReset s
  complete .pwmDisabled
    { n with pcfg := { n.pcfg with freq := 0 }, status := { n.status with mode := .io } }

/-- PULSE with FREQ > 0 and operands in range (R133). -/
def enablePulse (f d : Nat) (s : State) : State :=
  let n := startGenerator (bandRatio f) .pulse (pulsePeriod f) (pulseDuty f d) s
  complete .pwmEnabled
    { n with pcfg := { n.pcfg with freq := BitVec.ofNat 16 f, duty := BitVec.ofNat 8 d } }

/-- PULSE freq, duty (R133 to R135). -/
def execPulse (f d : Nat) (s : State) : Outcome :=
  if f = 0 then .next (disablePulse s)
  else if pulseInRange f d then .next (enablePulse f d s)
  else .next (failWith .range s)

/-- SERVO with the angle in range, at a given prescaler ratio (R136). -/
def enableServo (r : Ratio) (a : Nat) (s : State) : State :=
  let n := startGenerator r .servo servoPeriod (servoDuty a) s
  complete .servoEnabled { n with pcfg := { n.pcfg with angle := BitVec.ofNat 8 a } }

/-- SERVO angle (R136), at P_SERVO_RATIO. -/
def execServo (a : Nat) (s : State) : Outcome :=
  if servoInRange a then .next (enableServo (servoPrescaler s.params.servoRatio) a s)
  else .next (failWith .range s)

end Sys2Proof.Machine
end

