-- ==== Sys2Proof/Machine/Dispatch.lean ====
section
/-! DEFINITION. Which meaning each command has: one arm per constructor of Instr. -/

namespace Sys2Proof.Machine

def exec (i : Instr) (s : State) : Host.Outcome State Fault Refusal :=
  match i with
  | .pulse f d => Sys2Proof.Machine.execPulse f d s
  | .servo a => Sys2Proof.Machine.execServo a s
  | .measure => Sys2Proof.Machine.execMeasure s
  | .read => Sys2Proof.Machine.execRead s
  | .drive level => Sys2Proof.Machine.execDrive level s
  | .hiz => Sys2Proof.Machine.execHiz s

end Sys2Proof.Machine
end

