-- ==== Sys2Proof/Machine/Bus.lean ====
section
/-! DEFINITION. The host's bus accesses (20_memory.md): which are performed, what a read returns, what a
write does; the acceptance of a command word (40_controller.md R100, R101). -/

namespace Sys2Proof.Machine

/-- An accepted word is decoded and run, or completes with ILLEGAL (R100). -/
def runWord (w : Word) (s : State) : Outcome :=
  match decode w with
  | .ok i => exec i s
  | .error _ => .next (failWith .illegal s)

/-- A write to CMD: accepted when no command runs (R100), else refused (R101). -/
def writeCmd (w : Word) (s : State) : Outcome :=
  if s.status.busy then .next (refuseBusy s) else runWord w (accept w s)

/-- `BusWrite` to a register: only CMD and STATUS writes have an effect (R65). -/
def writeReg (r : Reg) (v : Word) (s : State) : Outcome :=
  match r with
  | .cmd => writeCmd v s
  | .status => .next { s with status := clearStatus v s.status }
  | _ => .next s

/-- What an access selects: the register at its offset from the base address (R60), or the reason it
stops. An address outside the window comes first, since the block does not decode it (R60, log 13); then
the width and the alignment of the offset (R63). -/
def selectReg (base addr width : Nat) : Except Outcome Reg :=
  if addr < base ∨ base + windowBytes ≤ addr then .error (.refused .outsideWindow)
  else if width = 4 then
    match regAt (addr - base) with
    | some r => .ok r
    | none => .error (.fault .busError)
  else .error (.fault .busError)

/-- One host access (R62, R63). -/
def busAccess (a : Access) (s : State) : Outcome :=
  match a with
  | .read addr width =>
    match selectReg s.params.base addr width with
    | .ok r => .next { s with reply := some (readReg r s) }
    | .error o => o
  | .write addr width v =>
    match selectReg s.params.base addr width with
    | .ok r => writeReg r v s
    | .error o => o

/-- What one input does. -/
def consume (x : Input) (s : State) : Outcome :=
  match x with
  | .bus a => busAccess a s
  | .sequencer => .next (seqTurn s)
  | .ticks n => .next (passTicks n s)
  | .edges n => .next (passEdges n s)
  | .level l => .next (setLine l s)
  | .reset => .next (resetEvent s)

/-- What the block does by itself while no input is pending: the sequencer's enabled step, else one
source tick (log 3). -/
def runAlone (s : State) : State := if seqEnabled s then seqTurn s else passTicks 1 s

/-- The host's write of a word to CMD (30_encoding.md R93 `wr CMD, w`). -/
def cmdWrite (p : Params) (w : Word) : Input := .bus (.write (p.base + 0x00) 4 w)

end Sys2Proof.Machine
end

