-- ==== Sys2Proof/Machine/Step.lean ====
section
/-! DEFINITION. One step of the machine: the oldest pending input is consumed, or, with none pending,
the block runs by itself (log 2, log 3). -/

namespace Sys2Proof.Machine

/-- One step. -/
def step (s : State) : Host.Outcome State Fault Refusal :=
  match s.inputs with
  | [] => .next (runAlone s)
  | x :: rest => consume x { s with inputs := rest }

/-- `s` with the host about to write the command word of the opcode table's numbering to CMD: the
very next step performs that write (log 4). -/
def State.withFetchWord (s : State) (nbits w : Nat) : State :=
  { s with inputs := cmdWrite s.params (tableWord nbits w) :: s.inputs }

end Sys2Proof.Machine
end

