-- ==== Sys2Proof/Machine/HostSide.lean ====
section
/-! DEFINITION. Host-side conventions, which the block does not perform: the pseudo-commands and the
program notation of 30_encoding.md R93 and R94, and the rendering of a result (42_measure.md R185). -/

namespace Sys2Proof.Machine

/-- `PWMOFF` (R94). -/
def pwmOff : Instr := .pulse 0 0

/-- `HIGH` (R94). -/
def driveHigh : Instr := .drive true

/-- `LOW` (R94). -/
def driveLow : Instr := .drive false

/-- `wr REG, value` (R93): BusWrite at the register's offset from P_BASE (00_scope.md R11). -/
def wr (p : Params) (r : Reg) (v : Word) : Input := .bus (.write (p.base + regOffset r) 4 v)

/-- `wr CMD, <mnemonic>` (R93). -/
def wrCmd (p : Params) (i : Instr) : Input := wr p .cmd (encode i)

/-- `rd REG` (R93). -/
def rd (p : Params) (r : Reg) : Input := .bus (.read (p.base + regOffset r) 4)

/-- `clr`: DONE and every sticky bit cleared (R93). -/
def clr (p : Params) : Input := wr p .status 0x001F0002

/-- Whether the host's `wait` loop ends after the read it has just made: that read returned STATUS
with BUSY = 0 (R93). -/
def waitEnds (s : State) : Bool :=
  match s.reply with
  | some v => !v.getLsbD 0
  | none => false

/-- `RUN c` with a wait loop of `polls` reads (R94). A host program is a list of inputs, so a loop is
given by how often it ran (log 2). -/
def runCmd (p : Params) (i : Instr) (polls : Nat) : List Input :=
  wrCmd p i :: List.replicate polls (rd p .status)

/-- The physical reading of the generator (41_pulse_generator.md R139), which no rule's arithmetic uses:
the output frequency in hertz and the high time in seconds, each as numerator and denominator. -/
def physicalReading (p : Params) (g : Generator) : (Nat × Nat) × (Nat × Nat) :=
  ((p.fTick, ratioTicks g.ratio * (g.period.toNat + 1)),
    (g.compare.toNat * ratioTicks g.ratio, p.fTick))

/-- `pad0_d`: zeros on the left to exactly `d` characters (R185). -/
def padZeros (d : Nat) (text : List Char) : List Char :=
  List.replicate (d - text.length) '0' ++ text

/-- The text of a MEASURED result (R185). -/
def render (int frac digits : Nat) : List Char :=
  if digits = 0 then Nat.toDigits 10 int
  else Nat.toDigits 10 int ++ '.' :: padZeros digits (Nat.toDigits 10 frac)

end Sys2Proof.Machine
end

