-- ==== Sys2Proof/Safety.lean ====
section
/-! DEFINITION. What a safe run is, in the terms the claims use: the reset values (10_state.md R47), the
invariants of R21 and R46, the ranges of the fields, and inputs on which no step stops. -/

namespace Sys2Proof.Machine

/-- Every piece of state at the value R47 gives it (R47 gives N, I, PREV, SUM and the gate ratio
none). -/
abbrev State.atResetValues (s : State) : Prop :=
  s.seq = .idle ∧ s.cmd = 0 ∧ statusWord s.status = 0 ∧ s.status.mode = .io ∧ s.status.code = .none
  ∧ s.result.int = 0 ∧ s.result.frac = 0 ∧ s.result.digits = 0
  ∧ s.pcfg.freq = 0 ∧ s.pcfg.duty = 0 ∧ s.pcfg.angle = 0
  ∧ genCfgWord s.gen = 0 ∧ s.gen.period = 0 ∧ s.gen.compare = 0
  ∧ s.pin.func = .digitalIn ∧ s.pin.latch = false
  ∧ s.obs.raw1 = 0 ∧ s.obs.raw2 = 0 ∧ s.obs.avgN = 0 ∧ s.obs.sumLo = 0 ∧ s.obs.sumHi = 0
  ∧ s.obs.mean = 0
  ∧ s.gen.gc = 0 ∧ s.gen.gp = 0
  ∧ s.gate.count = 0 ∧ s.gate.prescaler = 0 ∧ s.gate.refTimer = .stopped ∧ s.gate.expired = false
  ∧ s.capture.enabled = false ∧ s.capture.timestamp = 0 ∧ s.capture.buffer = []

/-! The invariants of 10_state.md R46, clause by clause -/

/-- R46 (a): MODE = PWM, the generator enabled and the pin bound to it go together. -/
abbrev State.modeBound (s : State) : Prop :=
  (s.status.mode = .pwm ↔ s.gen.en = true) ∧ (s.gen.en = true ↔ s.pin.func = .pwmOut)

/-- R46 (b): a generator that is off has its registers 0. -/
abbrev State.offIsNeutral (s : State) : Prop :=
  s.gen.en = false →
    s.gen.ratio = .r1 ∧ s.gen.kind = .none ∧ s.gen.period = 0 ∧ s.gen.compare = 0

/-- R46 (c): the pin is the capture input exactly while a MEASURE runs. -/
abbrev State.captureBound (s : State) : Prop := s.pin.func = .captureIn ↔ s.seq ≠ .idle

/-- R46 (d), in its stronger form. -/
abbrev State.compareBound (s : State) : Prop := s.gen.en = true → s.gen.compare ≤ s.gen.period

/-- Whether the gate counter's reference timer runs. -/
def gateRuns (g : Gate) : Bool :=
  match g.refTimer with
  | .stopped => false
  | .running _ => true

/-- R46 (e): at most one of the generator, the gate counter and the capture pair is enabled. -/
abbrev State.oneTimerAtMost (s : State) : Prop :=
  ¬(s.gen.en = true ∧ gateRuns s.gate = true) ∧ ¬(s.gen.en = true ∧ s.capture.enabled = true)
  ∧ ¬(gateRuns s.gate = true ∧ s.capture.enabled = true)

/-- The five clauses of R46. -/
abbrev State.R46 (s : State) : Prop :=
  s.modeBound ∧ s.offIsNeutral ∧ s.captureBound ∧ s.compareBound ∧ s.oneTimerAtMost

/-- R21: SEQ = IDLE exactly when STATUS.BUSY = 0. -/
abbrev State.busyBound (s : State) : Prop := s.seq = .idle ↔ s.status.busy = false

/-- Whether a phase is a gate window. -/
def gatePhase : Phase → Bool
  | .gate1 => true
  | .gate2 => true
  | .idle => false
  | .avgFirst => false
  | .avgLoop => false

/-- Whether a phase waits for captures. -/
def averagerPhase : Phase → Bool
  | .avgFirst => true
  | .avgLoop => true
  | .idle => false
  | .gate1 => false
  | .gate2 => false

/-- 40_controller.md R112, by phase: which timing peripheral runs in which phase of the sequencer. -/
abbrev State.phaseBound (s : State) : Prop :=
  gateRuns s.gate = gatePhase s.seq ∧ s.capture.enabled = averagerPhase s.seq

/-- The invariant of the mode state machine and the sequencer: R46, R21 and R112 together. -/
abbrev State.Exclusive (s : State) : Prop := s.R46 ∧ s.busyBound ∧ s.phaseBound

/-! The ranges of the fields -/

/-- Legal contents of the result and configuration registers (10_state.md R34, R35). -/
abbrev State.registersInRange (s : State) : Prop :=
  s.result.digits ≤ 5 ∧ s.pcfg.duty ≤ 100 ∧ s.pcfg.angle ≤ 180 ∧ s.gen.period ≤ 1250

/-- The generator's counters stay below their ends while it runs (R42, 41_pulse_generator.md R138). -/
abbrev State.generatorInRange (s : State) : Prop :=
  s.gen.en = true → s.gen.gc ≤ s.gen.period ∧ s.gen.gp < ratioTicks s.gen.ratio

/-- A running reference timer has counted at most its window, and its expiry flag is set exactly at the
window's end (R43, log 15). -/
def timerInRange (window : Nat) (g : Gate) : Bool :=
  match g.refTimer with
  | .stopped => true
  | .running e => decide (e ≤ window) && g.expired == decide (e = window)

/-- The gate's prescaler stays below the ratio of its pass, 1:256 then 1:1, and its reference timer in
its window (R43, 42_measure.md R164). -/
abbrev State.gateInRange (s : State) : Prop :=
  (s.seq = .gate1 → s.gate.ratio = .r256) ∧ (s.seq = .gate2 → s.gate.ratio = .r1)
  ∧ s.gate.prescaler < ratioTicks s.gate.ratio
  ∧ timerInRange s.params.gateTicks s.gate = true

/-- The capture buffer holds at most P_CAP_FIFO_DEPTH timestamps (R44). -/
abbrev State.bufferInRange (s : State) : Prop := s.capture.buffer.length ≤ Config.capDepth

/-- The averager's count and sum (42_measure.md R170, R172): 1 ≤ N ≤ 3999, I < N while it loops, and
SUM at most I intervals below 2^32, so that it never wraps. -/
abbrev State.averagerInRange (s : State) : Prop :=
  (averagerPhase s.seq = true → 1 ≤ s.avg.n.toNat ∧ s.avg.n.toNat ≤ 3999)
  ∧ (s.seq = .avgLoop →
      s.avg.i.toNat < s.avg.n.toNat ∧ s.avg.sum.toNat ≤ s.avg.i.toNat * (2 ^ 32 - 1))

/-- A gate window lasts at least one source tick (00_scope.md R9, log 12). -/
abbrev State.parametersLegal (s : State) : Prop := 1 ≤ s.params.gateTicks

/-- All the ranges. -/
abbrev State.InRange (s : State) : Prop :=
  s.parametersLegal ∧ s.registersInRange ∧ s.generatorInRange ∧ s.gateInRange ∧ s.bufferInRange
  ∧ s.averagerInRange

/-! What time and edges may change -/

/-- The sequencer has no enabled step: it is idle, its gate window runs, or no capture waits (42_measure.md
R164, R171, R172, R182). -/
abbrev State.waits (s : State) : Prop :=
  s.seq = .idle ∨ (gatePhase s.seq = true ∧ s.gate.expired = false)
    ∨ (averagerPhase s.seq = true ∧ s.capture.buffer = [])

/-- `t` is `s` but for what source ticks move: the generator's counters (10_state.md R42), the reference
timer with its flag (R43) and the timestamp counter (R44), each only while it runs (the timestamp counter
while the channels are enabled: log 9). -/
abbrev State.onlyTicked (s t : State) : Prop :=
  t =
      { s with
        gen := { s.gen with gc := t.gen.gc, gp := t.gen.gp }
        gate := { s.gate with refTimer := t.gate.refTimer, expired := t.gate.expired }
        capture := { s.capture with timestamp := t.capture.timestamp } }
  ∧ (s.gen.en = false → t.gen = s.gen)
  ∧ (gateRuns s.gate = false → t.gate = s.gate)
  ∧ (s.capture.enabled = false → t.capture = s.capture)

/-- `t` is `s` but for what edges move: the gate's counters, while its window runs (R43), and the capture
buffer, while the channels are enabled (R44). -/
abbrev State.onlyEdged (s t : State) : Prop :=
  t =
      { s with
        gate := { s.gate with count := t.gate.count, prescaler := t.gate.prescaler }
        capture := { s.capture with buffer := t.capture.buffer } }
  ∧ (gateRuns s.gate = false ∨ s.gate.expired = true → t.gate = s.gate)
  ∧ (s.capture.enabled = false → t.capture = s.capture)

/-! Runs and inputs -/

/-- `k` steps of the machine. -/
def runSteps (k : Nat) (s : State) : Outcome := Sys2Proof.core.run k s

/-- Whether an access of this width at this address is one that the block performs (20_memory.md R60,
R62). -/
def addressLegal (base addr width : Nat) : Bool :=
  decide (base ≤ addr) && decide (addr < base + windowBytes) && decide ((addr - base) % 4 = 0)
    && decide (width = 4)

/-- A host access the block performs. -/
def accessLegal (p : Params) : Access → Bool
  | .read addr width => addressLegal p.base addr width
  | .write addr width _ => addressLegal p.base addr width

/-- An input on which no step stops. -/
def inputLegal (p : Params) : Input → Bool
  | .bus a => accessLegal p a
  | .sequencer => true
  | .ticks _ => true
  | .edges _ => true
  | .level _ => true
  | .reset => true

/-- An input that brings neither an edge nor a reset, so that a waiting averager goes on waiting. -/
def bringsNoEdge (p : Params) : Input → Bool
  | .bus a => accessLegal p a
  | .sequencer => true
  | .ticks _ => true
  | .edges n => decide (n = 0)
  | .level _ => true
  | .reset => false

/-- Source ticks or edges. -/
def timeOrEdges : Input → Bool
  | .ticks _ => true
  | .edges _ => true
  | .bus _ => false
  | .sequencer => false
  | .level _ => false
  | .reset => false

/-- The rising edges of a list of inputs. -/
def edgesOf : List Input → Nat
  | [] => 0
  | .edges n :: xs => n + edgesOf xs
  | _ :: xs => edgesOf xs

/-- The source ticks of a list of inputs. -/
def ticksOf : List Input → Nat
  | [] => 0
  | .ticks n :: xs => n + ticksOf xs
  | _ :: xs => ticksOf xs

/-- A signal whose edges are the given numbers of ticks apart, each edge taken by the sequencer at
once: one baseline edge, then one edge after each interval (42_measure.md R171, R172). -/
def signalEdges : List Nat → List Input
  | [] => []
  | d :: ds => .ticks d :: .edges 1 :: .sequencer :: signalEdges ds

/-- The baseline edge and then `signalEdges`. -/
def signal (ds : List Nat) : List Input := .edges 1 :: .sequencer :: signalEdges ds

/-- The next input is a CMD write of `w` that the block accepts. -/
abbrev State.acceptsNext (s : State) (w : Word) (rest : List Input) : Prop :=
  s.inputs = cmdWrite s.params w :: rest ∧ s.status.busy = false

/-- A command can end in the next step: one runs (SEQ ≠ IDLE, which is BUSY = 1 by 10_state.md R21), or
the block accepts one (40_controller.md R100, R104). -/
abbrev State.mayComplete (s : State) : Prop := s.seq ≠ .idle ∨ ∃ w rest, s.acceptsNext w rest

end Sys2Proof.Machine
end

