-- ==== Sys2Proof/Certificates/Slice0/Obligations.lean ====
section
/-! DEFINITION. The statements for the provers, from the numbered rules of spec/. Their next states are
written field by field; `timingReset` is given by `TimingResetMakesPeripheralsNeutral`. A next state that
is `{ s with … }` also says that the averager's N, I, PREV and SUM stay where no rule writes them: outside
AVG_FIRST and AVG_LOOP that is the model's choice (log 24). -/

open Sys2Proof Sys2Proof.Machine

/-! Encoding (30_encoding.md) -/

/-- R85 to R92: decoding the word of a well-formed command gives the command back, every operand at
every value its field admits. -/
def Obligations.EncodedCommandDecodes : Prop :=
  ∀ i : Instr, i.WellFormed → decode (encode i) = .ok i

/-- R90, R91: a word that decodes is the word of the command it decodes to, so no two words are one
command. -/
def Obligations.DecodedWordIsItsEncoding : Prop :=
  ∀ (w : Word) (i : Instr), decode w = .ok i → i.WellFormed ∧ encode i = w

/-- R90: the decoder follows the match and mask of every row, with the row's free fields; every other
word is illegal; no word matches two rows. -/
def Obligations.DecoderFollowsMatchTable : Prop :=
  ∀ w : Word,
    (w &&& 0x000000FF = 0x00000001 →
      decode w = .ok (.pulse (w.extractLsb' 16 16).toNat (w.extractLsb' 8 8).toNat))
    ∧ (w &&& 0x0000FFFF = 0x00000002 → decode w = .ok (.servo (w.extractLsb' 16 16).toNat))
    ∧ (w &&& 0xFFFFFFFF = 0x00000003 → decode w = .ok .measure)
    ∧ (w &&& 0xFFFFFFFF = 0x00000004 → decode w = .ok .read)
    ∧ (w &&& 0xFFFFFEFF = 0x00000005 → decode w = .ok (.drive (w.getLsbD 8)))
    ∧ (w &&& 0xFFFFFFFF = 0x00000006 → decode w = .ok .hiz)
    ∧ ((∀ i : Instr, w &&& rowMask i ≠ rowMatch i) → ∃ e, decode w = .error e)
    ∧ (∀ i j : Instr, w &&& rowMask i = rowMatch i → w &&& rowMask j = rowMatch j →
        rowMatch i = rowMatch j)

/-- A few words written out from 30_encoding.md R92 and 95_test_vectors.md 2.1. -/
def Obligations.SampleWordsDecode : Prop :=
  decode 0x03E83201 = .ok (.pulse 1000 50) ∧ decode 0x00000001 = .ok (.pulse 0 0)
  ∧ decode 0x005A0002 = .ok (.servo 90) ∧ decode 0x00000003 = .ok .measure
  ∧ decode 0x00000004 = .ok .read ∧ decode 0x00000105 = .ok (.drive true)
  ∧ decode 0x00000005 = .ok (.drive false) ∧ decode 0x00000006 = .ok .hiz

/-- R83, R84: an accepted word with a reserved opcode or a non-zero must-be-zero field completes at
once with ILLEGAL, sets E_ILLEGAL, and changes nothing else (but CMD, which keeps the word). -/
def Obligations.IllegalWordCompletesAtOnce : Prop :=
  ∀ (s : State) (w : Word) (rest : List Input), s.acceptsNext w rest →
    (w.extractLsb' 0 4 = 0 ∨ 7 ≤ (w.extractLsb' 0 4).toNat
      ∨ w.extractLsb' 4 4 ≠ 0
      ∨ (w.extractLsb' 0 4 ∈ [2, 3, 4, 6] ∧ w.extractLsb' 8 8 ≠ 0)
      ∨ (w.extractLsb' 0 4 ∈ [3, 4, 5, 6] ∧ w.extractLsb' 16 16 ≠ 0)
      ∨ (w.extractLsb' 0 4 = 5 ∧ w.extractLsb' 9 7 ≠ 0)) →
    step s = .next
      { s with
        inputs := rest
        cmd := w
        seq := .idle
        status := { s.status with
          busy := false, done := true, code := .illegal, eIllegal := true } }

/-! Acceptance and completion (40_controller.md) -/

/-- R100: an accepted word is kept in CMD, DONE falls and BUSY rises, and the word is decoded; a
command runs by its own rule, any other word fails with ILLEGAL. -/
def Obligations.StepRunsDecodedCommand : Prop :=
  ∀ (s : State) (w : Word) (rest : List Input), s.acceptsNext w rest →
    (∀ i : Instr, decode w = .ok i →
      step s = exec i
        { s with
          inputs := rest, cmd := w, status := { s.status with done := false, busy := true } })
    ∧ ((∃ e, decode w = .error e) →
      step s = .next
        { s with
          inputs := rest
          cmd := w
          seq := .idle
          status := { s.status with
            busy := false, done := true, code := .illegal, eIllegal := true } })

/-- R101, R105: while a command runs, a CMD write only sets E_BUSY, and no host access ends the
command or touches anything but W1C bits, E_BUSY and the host's own read data. -/
def Obligations.HostCannotDisturbRunningCommand : Prop :=
  ∀ (s : State) (rest : List Input), s.status.busy = true →
    (∀ w : Word, s.inputs = cmdWrite s.params w :: rest →
      step s = .next { s with inputs := rest, status := { s.status with eBusy := true } })
    ∧ (∀ (a : Access) (t : State), s.inputs = .bus a :: rest → step s = .next t →
      t = { s with inputs := rest, status := t.status, reply := t.reply }
      ∧ t.status.busy = true ∧ t.status.mode = s.status.mode
      ∧ t.status.autorange = s.status.autorange ∧ t.status.code = s.status.code)

/-- R104: every accepted word but a MEASURE in IO mode has completed when its one step ends; a MEASURE
in IO mode is then running. -/
def Obligations.OnlyMeasureOutlastsItsStep : Prop :=
  ∀ (s : State) (w : Word) (rest : List Input), s.acceptsNext w rest →
    (¬(decode w = .ok .measure ∧ s.status.mode = .io) →
      ∃ t, step s = .next t ∧ t.status.busy = false ∧ t.status.done = true ∧ t.seq = .idle)
    ∧ (decode w = .ok .measure → s.status.mode = .io →
      ∃ t, step s = .next t ∧ t.status.busy = true ∧ t.status.done = false ∧ t.seq = .gate1)

/-- R107: what TimingReset does, and what it does not touch. (That the gate prescaler's ratio stays, which
R107 does not name, is the model's choice, log 10.) -/
def Obligations.TimingResetMakesPeripheralsNeutral : Prop :=
  ∀ s : State,
    timingReset s =
      { s with
        gen :=
          { ratio := .r1, en := false, kind := .none, period := 0, compare := 0, gc := 0, gp := 0 }
        gate := { s.gate with count := 0, prescaler := 0, refTimer := .stopped, expired := false }
        capture := { enabled := false, timestamp := 0, buffer := s.capture.buffer }
        pin := { s.pin with
          func :=
            if s.pin.func = .pwmOut ∨ s.pin.func = .captureIn then .digitalIn
            else s.pin.func } }

/-- R109: READ, DRIVE and HIZ change no timing peripheral, no PCFG field and not STATUS.MODE, in
either mode. -/
def Obligations.DigitalIoLeavesTimingAlone : Prop :=
  ∀ (s : State) (i : Instr), (i = .read ∨ (∃ l, i = .drive l) ∨ i = .hiz) →
    ∃ t, exec i s = .next t ∧ t.gen = s.gen ∧ t.gate = s.gate ∧ t.capture = s.capture
      ∧ t.pcfg = s.pcfg ∧ t.status.mode = s.status.mode

/-! The pulse generator (41_pulse_generator.md) -/

/-- R130: the four prescaler bands with their codes and divisors. -/
def Obligations.PrescalerBands : Prop :=
  ∀ f : Nat, 1 ≤ f →
    (f ≤ 3 → ratioTicks (bandRatio f) = 256 ∧ ratioCode (bandRatio f) = 3 ∧ bandDivisor f = 62)
    ∧ (4 ≤ f → f ≤ 30 →
        ratioTicks (bandRatio f) = 64 ∧ ratioCode (bandRatio f) = 2 ∧ bandDivisor f = 250)
    ∧ (31 ≤ f → f ≤ 244 →
        ratioTicks (bandRatio f) = 8 ∧ ratioCode (bandRatio f) = 1 ∧ bandDivisor f = 2000)
    ∧ (245 ≤ f →
        ratioTicks (bandRatio f) = 1 ∧ ratioCode (bandRatio f) = 0 ∧ bandDivisor f = 16000)

/-- R131, R132: the quotient is 0 exactly past 16000; the period of a legal frequency is the quotient
less 1, at most 64; the duty value never exceeds the period, is 0 at 0 and the period at 100. -/
def Obligations.PeriodAndDutyFitTheirRegisters : Prop :=
  ∀ f d : Nat, 1 ≤ f →
    (bandDivisor f / f = 0 ↔ 16000 < f)
    ∧ (f ≤ 16000 → d ≤ 100 →
        pulsePeriod f + 1 = bandDivisor f / f ∧ pulsePeriod f ≤ 64
        ∧ pulsePeriod f * d ≤ 6400 ∧ pulseDuty f d = pulsePeriod f * d / 100
        ∧ pulseDuty f d ≤ pulsePeriod f ∧ pulseDuty f 0 = 0 ∧ pulseDuty f 100 = pulsePeriod f)

/-- R133, R135: PULSE with FREQ > 0. In range it programs and starts the generator, binds the pin, keeps
ANGLE and LATCH and enters PWM mode; out of range it fails with RANGE and changes nothing else. The
corner frequencies give the periods that R133 lists. -/
def Obligations.PulseEnablesGenerator : Prop :=
  ∀ (s : State) (f d : Nat), 1 ≤ f →
    (f ≤ 16000 → d ≤ 100 →
      exec (.pulse f d) s = .next
        { timingReset s with
          gen :=
            { ratio := bandRatio f, en := true, kind := .pulse
              period := BitVec.ofNat 16 (bandDivisor f / f - 1)
              compare := BitVec.ofNat 16 ((bandDivisor f / f - 1) * d / 100)
              gc := 0, gp := 0 }
          pin := { s.pin with func := .pwmOut }
          pcfg := { s.pcfg with freq := BitVec.ofNat 16 f, duty := BitVec.ofNat 8 d }
          seq := .idle
          status := { s.status with
            mode := .pwm, busy := false, done := true, code := .pwmEnabled } })
    ∧ ((bandDivisor f / f = 0 ∨ 100 < d) →
      exec (.pulse f d) s = .next
        { s with
          seq := .idle
          status := { s.status with
            busy := false, done := true, code := .range, eRange := true } })
    ∧ (bandDivisor f / f = 0 ↔ 16000 < f)
    ∧ (8001 ≤ f → f ≤ 16000 → bandDivisor f / f - 1 = 0)
    ∧ (5334 ≤ f → f ≤ 8000 → bandDivisor f / f - 1 = 1)

/-- R134: PULSE with FREQ = 0, any duty: the generator neutral, the pin detached, only FREQ of PCFG
cleared, IO mode. A second one changes nothing further; in IO mode it leaves the pin as it was. -/
def Obligations.PulseZeroDisablesGenerator : Prop :=
  ∀ (s : State) (d : Nat),
    (∃ t, exec (.pulse 0 d) s = .next t
      ∧ t =
        { timingReset s with
          pcfg := { s.pcfg with freq := 0 }
          seq := .idle
          status := { s.status with
            mode := .io, busy := false, done := true, code := .pwmDisabled } }
      ∧ ∀ d' : Nat, exec (.pulse 0 d') t = .next t)
    ∧ (s.R46 → s.seq = .idle → s.status.mode = .io →
      ∃ t, exec (.pulse 0 d) s = .next t ∧ t.pin = s.pin ∧ t.gen.en = s.gen.en
        ∧ t.status.mode = .io)

/-- R136: SERVO. In range it programs the fixed frame at P_SERVO_RATIO (64, or the alternative 256; R9
gives this spec 64), keeps FREQ and DUTY and enters PWM mode; past 180 it fails with RANGE and changes
nothing else. -/
def Obligations.ServoEnablesGenerator : Prop :=
  (ratioTicks (servoPrescaler .r64) = 64 ∧ ratioTicks (servoPrescaler .r256) = 256
    ∧ State.reset.params.servoRatio = .r64)
  ∧ ∀ (s : State) (a : Nat),
    (a ≤ 180 →
      exec (.servo a) s = .next
        { timingReset s with
          gen :=
            { ratio := servoPrescaler s.params.servoRatio, en := true, kind := .servo
              period := BitVec.ofNat 16 1250
              compare := BitVec.ofNat 16 (1250 * a / 3500 + 62)
              gc := 0, gp := 0 }
          pin := { s.pin with func := .pwmOut }
          pcfg := { s.pcfg with angle := BitVec.ofNat 8 a }
          seq := .idle
          status := { s.status with
            mode := .pwm, busy := false, done := true, code := .servoEnabled } })
    ∧ (180 < a →
      exec (.servo a) s = .next
        { s with
          seq := .idle
          status := { s.status with
            busy := false, done := true, code := .range, eRange := true } })

/-- R137: the servo compare value in both of its forms, its range, its growth with the angle, and the
values the rule lists. -/
def Obligations.ServoCompareValue : Prop :=
  (∀ a : Nat, servoDuty a = 1250 * a / 3500 + 62 ∧ servoDuty a = 5 * a / 14 + 62)
  ∧ (∀ a : Nat, a ≤ 180 → 62 ≤ servoDuty a ∧ servoDuty a ≤ 126)
  ∧ (∀ a b : Nat, a ≤ b → servoDuty a ≤ servoDuty b)
  ∧ [0, 3, 14, 45, 90, 135, 179, 180].map servoDuty = [62, 63, 67, 78, 94, 110, 125, 126]

/-- R138: the rule of one source tick, the output while enabled and while not, and the frame it makes:
from GC = GP = 0, after n source ticks, the output is high exactly in the first GEN_COMPARE prescaled
ticks of each frame of GEN_PERIOD + 1. -/
def Obligations.GeneratorFrames : Prop :=
  ∀ g : Generator,
    (g.en = false → genOut g = false ∧ ∀ n, advanceGenerator n g = g)
    ∧ (g.en = true →
      (genOut g = true ↔ g.gc < g.compare)
      ∧ (g.gp + 1 = ratioTicks g.ratio →
          advanceGenerator 1 g =
            { g with gp := 0, gc := if g.gc = g.period then 0 else g.gc + 1 })
      ∧ (g.gp + 1 ≠ ratioTicks g.ratio → advanceGenerator 1 g = { g with gp := g.gp + 1 })
      ∧ (∀ m n : Nat, advanceGenerator (m + n) g = advanceGenerator n (advanceGenerator m g))
      ∧ (g.gc = 0 → g.gp = 0 → ∀ n : Nat,
          (advanceGenerator n g).gp = n % ratioTicks g.ratio
          ∧ (advanceGenerator n g).gc.toNat = n / ratioTicks g.ratio % (g.period.toNat + 1)
          ∧ (genOut (advanceGenerator n g) = true ↔
              n / ratioTicks g.ratio % (g.period.toNat + 1) < g.compare.toNat)))

/-- R133, R136, R138, R140 together: after a PULSE or SERVO that succeeds, in whatever state it came,
the pin is driven with the waveform of its operands alone; a frame in progress leaves no trace. At duty
100 that is high for PERIOD of PERIOD + 1 prescaled ticks: nothing here says "fully on" (log 16). -/
def Obligations.CommandedWaveform : Prop :=
  ∀ (s : State) (n : Nat),
    (∀ f d : Nat, 1 ≤ f → f ≤ 16000 → d ≤ 100 →
      ∃ t, exec (.pulse f d) s = .next t
        ∧ pinDrive (passTicks n t) =
          .drives (decide (n / ratioTicks (bandRatio f) % (bandDivisor f / f)
            < (bandDivisor f / f - 1) * d / 100)))
    ∧ (∀ a : Nat, a ≤ 180 →
      ∃ t, exec (.servo a) s = .next t
        ∧ pinDrive (passTicks n t) =
          .drives (decide (n / ratioTicks (servoPrescaler s.params.servoRatio) % 1251
            < 5 * a / 14 + 62)))

/-! Digital I/O (43_gpio.md) and the pin -/

/-- R210: in PWM mode READ, DRIVE and HIZ fail with PRECOND and change nothing else; while a command
runs, their words are refused. -/
def Obligations.DigitalIoNeedsIoMode : Prop :=
  ∀ (s : State) (i : Instr), (i = .read ∨ (∃ l, i = .drive l) ∨ i = .hiz) →
    (s.status.mode = .pwm →
      exec i s = .next
        { s with
          seq := .idle
          status := { s.status with
            busy := false, done := true, code := .precond, ePrecond := true } })
    ∧ (∀ rest : List Input, s.status.busy = true → s.inputs = cmdWrite s.params (encode i) :: rest →
      step s = .next { s with inputs := rest, status := { s.status with eBusy := true } })

/-- R211, R214: in IO mode READ puts the level of the pin, which the environment draws, into RESULT and
changes neither FUNC nor LATCH; in PWM mode it fails with PRECOND. (Both clauses on the form of the draw
are the model's choice, log 6: where `line` says a level, the sample is that one; `draws` counts the
samples.) -/
def Obligations.ReadReturnsPinLevel : Prop :=
  ∀ s : State,
    (s.status.mode = .io →
      ∃ l : Bool, (∀ b : Bool, s.line = some b → l = b)
        ∧ exec .read s = .next
          { s with
            result := { int := if l then 1 else 0, frac := 0, digits := 0 }
            draws := s.draws + 1
            seq := .idle
            status := { s.status with busy := false, done := true, code := .pinLevel } })
    ∧ (s.status.mode = .pwm →
      exec .read s = .next
        { s with
          seq := .idle
          status := { s.status with
            busy := false, done := true, code := .precond, ePrecond := true } })

/-- R212: in IO mode DRIVE writes LATCH and binds the pin as an output in one step, so that the pin drives
the new level; a second one gives the same state. In PWM mode it fails with PRECOND. -/
def Obligations.DriveSetsLatchAndOutput : Prop :=
  ∀ (s : State) (l : Bool),
    (s.status.mode = .io →
      ∃ t, exec (.drive l) s = .next t
        ∧ t =
          { s with
            pin := { func := .digitalOut, latch := l }
            seq := .idle
            status := { s.status with
              busy := false, done := true, code := if l then .drivenHigh else .drivenLow } }
        ∧ pinDrive t = .drives l ∧ exec (.drive l) t = .next t)
    ∧ (s.status.mode = .pwm →
      exec (.drive l) s = .next
        { s with
          seq := .idle
          status := { s.status with
            busy := false, done := true, code := .precond, ePrecond := true } })

/-- R213: in IO mode HIZ turns the output driver off, so that the pin is at high impedance, and keeps
LATCH. In PWM mode it fails with PRECOND. -/
def Obligations.HizReleasesPin : Prop :=
  ∀ s : State,
    (s.status.mode = .io →
      ∃ t, exec .hiz s = .next t
        ∧ t =
          { s with
            pin := { s.pin with func := .digitalIn }
            seq := .idle
            status := { s.status with busy := false, done := true, code := .hizSet } }
        ∧ pinDrive t = .highZ)
    ∧ (s.status.mode = .pwm →
      exec .hiz s = .next
        { s with
          seq := .idle
          status := { s.status with
            busy := false, done := true, code := .precond, ePrecond := true } })

/-- R45: what the block does to the pin is a function of PIN.FUNC. -/
def Obligations.PinDriverFollowsFunction : Prop :=
  ∀ s : State,
    (s.pin.func = .digitalIn ∨ s.pin.func = .captureIn → pinDrive s = .highZ)
    ∧ (s.pin.func = .digitalOut → pinDrive s = .drives s.pin.latch)
    ∧ (s.pin.func = .pwmOut → pinDrive s = .drives (genOut s.gen))

/-! Measurement (42_measure.md) -/

/-- R162: a MEASURE in PWM mode completes at once with MODE_CONFLICT, sets no sticky bit and changes
nothing else. -/
def Obligations.MeasureInPwmModeConflicts : Prop :=
  ∀ s : State, s.status.mode = .pwm →
    exec .measure s = .next
      { s with
        seq := .idle
        status := { s.status with busy := false, done := true, code := .modeConflict } }

/-- R163: a MEASURE in IO mode starts: TimingReset, the pin bound as capture input, AUTORANGE and the
observation registers cleared, the gate armed at 1:256, the phase GATE1. -/
def Obligations.MeasureInIoModeStarts : Prop :=
  ∀ s : State, s.status.mode = .io →
    exec .measure s = .next
      { timingReset s with
        pin := { s.pin with func := .captureIn }
        status := { s.status with autorange := false }
        obs := { raw1 := 0, raw2 := 0, avgN := 0, sumLo := 0, sumHi := 0, mean := 0 }
        gate :=
          { count := 0, prescaler := 0, ratio := .r256, refTimer := .running 0, expired := false }
        seq := .gate1 }

/-- R164: from an armed gate at ratio r, over any ticks and edges that do not fill the window, the count
is the edges so far, divided by r and truncated, modulo 2^32; once the window is full the expiry flag
is set, and later edges change nothing. (Edges and ticks as inputs are the model's form of the draw
Env.edges: log 7.) -/
def Obligations.GateCountsEdgesOfItsWindow : Prop :=
  ∀ (s : State) (r : Ratio) (xs rest : List Input), (r = .r256 ∨ r = .r1) →
    s.gate =
      { count := 0, prescaler := 0, ratio := r, refTimer := .running 0, expired := false } →
    s.inputs = xs ++ rest → (∀ x ∈ xs, timeOrEdges x = true) →
    ticksOf xs < s.params.gateTicks →
    ∃ t, runSteps xs.length s = .next t ∧ t.inputs = rest
      ∧ t.gate.count.toNat = edgesOf xs / ratioTicks r % 2 ^ 32
      ∧ t.gate.expired = false
      ∧ (∀ n : Nat, s.params.gateTicks ≤ ticksOf xs + n →
          (passTicks n t).gate.expired = true
          ∧ (passTicks n t).gate.count = t.gate.count
          ∧ ∀ m : Nat, (passEdges m (passTicks n t)).gate = (passTicks n t).gate)

/-- R165, R166, R184: the sequencer's turn in GATE1 once the window has ended. A count of at most 0x3FFF
re-arms at 1:1 with the autorange notice; a greater one is accepted times 256, or fails with ARITH where
the product does not fit 32 bits. (That a turn before the window's end is used up and changes nothing is
the model's choice, log 17.) -/
def Obligations.FirstGatePassDecides : Prop :=
  ∀ (s : State) (rest : List Input), s.inputs = .sequencer :: rest → s.seq = .gate1 →
    (s.gate.expired = false → step s = .next { s with inputs := rest })
    ∧ (s.gate.expired = true → s.gate.count.toNat ≤ 0x3FFF →
      step s = .next
        { s with
          inputs := rest
          obs := { s.obs with raw1 := s.gate.count }
          status := { s.status with autorange := true }
          gate :=
            { count := 0, prescaler := 0, ratio := .r1, refTimer := .running 0,
              expired := false }
          seq := .gate2 })
    ∧ (s.gate.expired = true → 0x3FFF < s.gate.count.toNat → s.gate.count.toNat * 256 < 2 ^ 32 →
      step s = .next
        { timingReset s with
          inputs := rest
          obs := { s.obs with raw1 := s.gate.count }
          result := { int := BitVec.ofNat 32 (s.gate.count.toNat * 256), frac := 0, digits := 0 }
          seq := .idle
          status := { s.status with busy := false, done := true, code := .measured } })
    ∧ (s.gate.expired = true → 0x3FFF < s.gate.count.toNat → 2 ^ 32 ≤ s.gate.count.toNat * 256 →
      step s = .next
        { timingReset s with
          inputs := rest
          obs := { s.obs with raw1 := s.gate.count }
          seq := .idle
          status := { s.status with
            busy := false, done := true, code := .arith, eArith := true } })

/-- R167 to R170: the sequencer's turn in GATE2 once the window has ended. 0 edges give TOO_LOW with
result 0, more than 3999 give the count, 1 to 3999 start the averager and drain the capture buffer. (That
a turn before the window's end is used up and changes nothing is the model's choice, log 17.) -/
def Obligations.SecondGatePassDecides : Prop :=
  ∀ (s : State) (rest : List Input), s.inputs = .sequencer :: rest → s.seq = .gate2 →
    (s.gate.expired = false → step s = .next { s with inputs := rest })
    ∧ (s.gate.expired = true → s.gate.count = 0 →
      step s = .next
        { timingReset s with
          inputs := rest
          obs := { s.obs with raw2 := 0 }
          result := { int := 0, frac := 0, digits := 0 }
          seq := .idle
          status := { s.status with busy := false, done := true, code := .tooLow } })
    ∧ (s.gate.expired = true → 3999 < s.gate.count.toNat →
      step s = .next
        { timingReset s with
          inputs := rest
          obs := { s.obs with raw2 := s.gate.count }
          result := { int := s.gate.count, frac := 0, digits := 0 }
          seq := .idle
          status := { s.status with busy := false, done := true, code := .measured } })
    ∧ (s.gate.expired = true → 1 ≤ s.gate.count.toNat → s.gate.count.toNat ≤ 3999 →
      step s = .next
        { s with
          inputs := rest
          obs := { s.obs with raw2 := s.gate.count, avgN := s.gate.count }
          avg := { s.avg with n := s.gate.count }
          gate := { s.gate with refTimer := .stopped }
          capture := { enabled := true, timestamp := 0, buffer := [] }
          seq := .avgFirst })

/-- R171: the sequencer's turn in AVG_FIRST takes the oldest capture as the baseline. -/
def Obligations.FirstCaptureIsBaseline : Prop :=
  ∀ (s : State) (rest : List Input) (t0 : Word) (b : List Word),
    s.inputs = .sequencer :: rest → s.seq = .avgFirst → s.capture.buffer = t0 :: b →
    step s = .next
      { s with
        inputs := rest
        capture := { s.capture with buffer := b }
        avg := { s.avg with prev := t0, i := 0, sum := 0 }
        seq := .avgLoop }

/-- R172 to R174: the sequencer's turn in AVG_LOOP adds the wrapped 32-bit interval since the previous
capture to the sum and its two observation words; on the N-th interval it takes the mean, which is
the measured period, or fails with ARITH at a mean of 0. -/
def Obligations.EachCaptureAddsItsInterval : Prop :=
  ∀ (s : State) (rest : List Input) (t0 : Word) (b : List Word) (sum : BitVec 64) (p : Nat),
    s.inputs = .sequencer :: rest → s.seq = .avgLoop → s.capture.buffer = t0 :: b →
    sum = s.avg.sum + BitVec.ofNat 64 ((t0.toNat + 2 ^ 32 - s.avg.prev.toNat) % 2 ^ 32) →
    p = sum.toNat / s.avg.n.toNat →
    (s.avg.i + 1 ≠ s.avg.n →
      step s = .next
        { s with
          inputs := rest
          capture := { s.capture with buffer := b }
          avg := { s.avg with prev := t0, i := s.avg.i + 1, sum := sum }
          obs := { s.obs with
            sumLo := BitVec.ofNat 32 sum.toNat, sumHi := BitVec.ofNat 32 (sum.toNat / 2 ^ 32) } })
    ∧ (s.avg.i + 1 = s.avg.n → p = 0 →
      step s = .next
        { timingReset s with
          inputs := rest
          capture := { enabled := false, timestamp := 0, buffer := b }
          avg := { s.avg with prev := t0, i := s.avg.i + 1, sum := sum }
          obs := { s.obs with
            sumLo := BitVec.ofNat 32 sum.toNat, sumHi := BitVec.ofNat 32 (sum.toNat / 2 ^ 32)
            mean := 0 }
          seq := .idle
          status := { s.status with
            busy := false, done := true, code := .arith, eArith := true } })
    ∧ (s.avg.i + 1 = s.avg.n → 1 ≤ p →
      step s = .next
        { timingReset s with
          inputs := rest
          capture := { enabled := false, timestamp := 0, buffer := b }
          avg := { s.avg with prev := t0, i := s.avg.i + 1, sum := sum }
          obs := { s.obs with
            sumLo := BitVec.ofNat 32 sum.toNat, sumHi := BitVec.ofNat 32 (sum.toNat / 2 ^ 32)
            mean := BitVec.ofNat 32 p }
          result :=
            { int := BitVec.ofNat 32 (decimalInt p), frac := BitVec.ofNat 32 (decimalFrac p),
              digits := BitVec.ofNat 4 (decimalBand p) }
          seq := .idle
          status := { s.status with busy := false, done := true, code := .measured } })

/-- R171 to R174, R177 over a whole averaging run: for any N intervals below 2^32 ticks, 1 ≤ N ≤ 3999,
the 64-bit sum is exact, the mean is their integer mean, and the result is its decimal conversion, or
ARITH with RESULT unchanged at a mean of 0. (Ticks and edges as inputs are the model's form of the draw
Env.capture: log 7.) -/
def Obligations.AveragerGivesExactMean : Prop :=
  ∀ (s : State) (rest : List Input) (ds : List Nat),
    s.seq = .avgFirst → s.capture.enabled = true → s.capture.buffer = [] →
    s.avg.n.toNat = ds.length → 1 ≤ ds.length → ds.length ≤ 3999 → (∀ d ∈ ds, d < 2 ^ 32) →
    s.inputs = signal ds ++ rest →
    ∃ t, runSteps (signal ds).length s = .next t ∧ t.inputs = rest
      ∧ t.status.busy = false ∧ t.status.done = true ∧ t.seq = .idle
      ∧ t.obs.sumHi.toNat * 2 ^ 32 + t.obs.sumLo.toNat = ds.sum
      ∧ t.obs.mean.toNat = ds.sum / ds.length
      ∧ (ds.sum / ds.length = 0 →
          t.status.code = .arith ∧ t.status.eArith = true ∧ t.result = s.result)
      ∧ (1 ≤ ds.sum / ds.length →
          t.status.code = .measured
          ∧ t.result.int.toNat = decimalInt (ds.sum / ds.length)
          ∧ t.result.frac.toNat = decimalFrac (ds.sum / ds.length)
          ∧ t.result.digits.toNat = decimalBand (ds.sum / ds.length))

/-- R173: N equal intervals of D ticks give the mean D exactly, for every N from 1 to 3999 and every D
below 2^32. (Ticks and edges as inputs are the model's form of the draw Env.capture: log 7.) -/
def Obligations.EqualIntervalsAverageToThemselves : Prop :=
  ∀ (s : State) (rest : List Input) (N D : Nat),
    s.seq = .avgFirst → s.capture.enabled = true → s.capture.buffer = [] →
    s.avg.n.toNat = N → 1 ≤ N → N ≤ 3999 → D < 2 ^ 32 →
    s.inputs = signal (List.replicate N D) ++ rest →
    ∃ t, runSteps (3 * N + 2) s = .next t ∧ t.inputs = rest ∧ t.obs.mean.toNat = D
      ∧ t.status.code = (if D = 0 then .arith else .measured)

/-- R175: the decimal band of every mean period, every comparison strict. -/
def Obligations.DecimalBandsAreStrict : Prop :=
  ∀ p : Nat,
    (decimalBand p = 5 ↔ 400000 < p)
    ∧ (decimalBand p = 4 ↔ 126491 < p ∧ p ≤ 400000)
    ∧ (decimalBand p = 3 ↔ 40000 < p ∧ p ≤ 126491)
    ∧ (decimalBand p = 2 ↔ 12649 < p ∧ p ≤ 40000)
    ∧ (decimalBand p = 1 ↔ p ≤ 12649)

/-- R177, R178: the converted value is 16,000,000 / p truncated to n decimals and fits 32 bits; its
integer part and fraction are its quotient and remainder by 10^n. -/
def Obligations.DecimalValueIsTruncatedQuotient : Prop :=
  ∀ p : Nat, 1 ≤ p →
    decimalValue p * p ≤ 16000000 * 10 ^ decimalBand p
    ∧ 16000000 * 10 ^ decimalBand p < (decimalValue p + 1) * p
    ∧ decimalValue p ≤ 160000000
    ∧ decimalInt p * 10 ^ decimalBand p + decimalFrac p = decimalValue p
    ∧ decimalFrac p < 10 ^ decimalBand p

/-- R179: wherever a running MEASURE ends (not by reset), the timing peripherals are neutral and the
pin is an input; MODE, PCFG and LATCH are as they were. -/
def Obligations.EveryMeasureExitIsNeutral : Prop :=
  ∀ s t : State, s.Exclusive → s.seq ≠ .idle → (∀ rest, s.inputs ≠ .reset :: rest) →
    step s = .next t → t.seq = .idle →
    t.gen =
        { ratio := .r1, en := false, kind := .none, period := 0, compare := 0, gc := 0, gp := 0 }
    ∧ t.gate.count = 0 ∧ t.gate.prescaler = 0 ∧ t.gate.refTimer = .stopped
    ∧ t.gate.expired = false ∧ t.capture.enabled = false ∧ t.capture.timestamp = 0
    ∧ t.pin = { func := .digitalIn, latch := s.pin.latch }
    ∧ t.status.mode = s.status.mode ∧ t.pcfg = s.pcfg
    ∧ t.status.busy = false ∧ t.status.done = true

/-- R181, with R164 to R170: a whole MEASURE from its CMD write to the end of its gate phases, for any
number of edges in each window. A first count past 0x3FFF gives MEASURED with the count times 256, or
ARITH with RESULT unchanged where that does not fit 32 bits; otherwise AUTORANGE rises and the second
count gives TOO_LOW, MEASURED with the count, or the averager with N = the count. (Edges and ticks as
inputs are the model's form of the draw Env.edges: log 7.) -/
def Obligations.CountedSignalIsReported : Prop :=
  ∀ (s : State) (rest : List Input) (e1 e2 raw1 raw2 : Nat),
    s.status.busy = false → s.status.mode = .io →
    s.inputs = [cmdWrite s.params (encode .measure), .edges e1, .ticks s.params.gateTicks, .sequencer,
      .edges e2, .ticks s.params.gateTicks, .sequencer] ++ rest →
    raw1 = e1 / 256 % 2 ^ 32 → raw2 = e2 % 2 ^ 32 →
    (0x3FFF < raw1 → raw1 * 256 < 2 ^ 32 →
      ∃ t, runSteps 4 s = .next t ∧ t.status.code = .measured ∧ t.status.busy = false
        ∧ t.status.autorange = false
        ∧ t.result = { int := BitVec.ofNat 32 (raw1 * 256), frac := 0, digits := 0 })
    ∧ (0x3FFF < raw1 → 2 ^ 32 ≤ raw1 * 256 →
      ∃ t, runSteps 4 s = .next t ∧ t.status.code = .arith ∧ t.status.busy = false
        ∧ t.status.autorange = false ∧ t.status.eArith = true ∧ t.result = s.result)
    ∧ (raw1 ≤ 0x3FFF → raw2 = 0 →
      ∃ t, runSteps 7 s = .next t ∧ t.status.code = .tooLow ∧ t.status.busy = false
        ∧ t.status.autorange = true ∧ t.result = { int := 0, frac := 0, digits := 0 })
    ∧ (raw1 ≤ 0x3FFF → 3999 < raw2 →
      ∃ t, runSteps 7 s = .next t ∧ t.status.code = .measured ∧ t.status.busy = false
        ∧ t.status.autorange = true
        ∧ t.result = { int := BitVec.ofNat 32 raw2, frac := 0, digits := 0 })
    ∧ (raw1 ≤ 0x3FFF → 1 ≤ raw2 → raw2 ≤ 3999 →
      ∃ t, runSteps 7 s = .next t ∧ t.seq = .avgFirst ∧ t.status.busy = true
        ∧ t.status.autorange = true ∧ t.result = s.result ∧ t.avg.n.toNat = raw2
        ∧ t.capture = { enabled := true, timestamp := 0, buffer := [] })

/-- R182: an averager without a capture hangs: whatever the host does, however much time passes and
however often the sequencer has its turn, with no edge and no reset it stays in its phase, busy. (That a
turn without an enabled step changes nothing, and that time passes when no input is left, is how the
model shows the hang: log 17, log 3.) -/
def Obligations.AveragerWithoutEdgesHangs : Prop :=
  ∀ s : State, averagerPhase s.seq = true → s.status.busy = true → s.capture.buffer = [] →
    (∀ x ∈ s.inputs, bringsNoEdge s.params x = true) →
    ∀ k : Nat, ∃ t, runSteps k s = .next t ∧ t.seq = s.seq ∧ t.status.busy = true
      ∧ t.status.code = s.status.code ∧ t.result = s.result ∧ t.avg = s.avg ∧ t.obs = s.obs

/-- R268: a gate window always ends: with no input at all, the phase is over one step after the rest of
its window (that the block runs by itself without input is the model's choice, log 3). -/
def Obligations.GateWindowAlwaysEnds : Prop :=
  ∀ (s : State) (e : Nat), gatePhase s.seq = true → s.gate.refTimer = .running e →
    s.gate.expired = false → e < s.params.gateTicks → s.inputs = [] →
    ∃ t, runSteps (s.params.gateTicks - e + 1) s = .next t ∧ t.seq ≠ s.seq
      ∧ t.obs.raw1 = (if s.seq = .gate1 then s.gate.count else s.obs.raw1)
      ∧ t.obs.raw2 = (if s.seq = .gate2 then s.gate.count else s.obs.raw2)

/-- R161: no law ties the timestamps: at a waiting capture pair every 32-bit timestamp can be the next
one, so the tick and edge inputs by which the model makes the draws (log 7) exclude none of them. -/
def Obligations.EveryTimestampCanBeDrawn : Prop :=
  ∀ (s : State) (w : Word) (rest : List Input), s.capture.enabled = true →
    s.capture.buffer = [] →
    ∃ (n : Nat) (t : State),
      runSteps 2 { s with inputs := .ticks n :: .edges 1 :: rest } = .next t
        ∧ t.capture.buffer = [w]

/-- R176: the stale contents of the capture buffer change no result: through the gate phases they are
only carried along, and the averager's start drops them. -/
def Obligations.StaleCapturesChangeNothing : Prop :=
  ∀ (s t : State) (b : List Word), gatePhase s.seq = true → step s = .next t →
    ∃ t' : State, step { s with capture := { s.capture with buffer := b } } = .next t'
      ∧ { t' with capture := { t'.capture with buffer := t.capture.buffer } } = t
      ∧ (t.seq = .avgFirst → t' = t)

/-- R185: the rendered fraction is exactly as many decimal digits as the band has, padded with zeros on
the left, and stands for the same number. -/
def Obligations.RenderingPadsTheFraction : Prop :=
  ∀ int frac d : Nat,
    render int frac 0 = Nat.toDigits 10 int
    ∧ (1 ≤ d → frac < 10 ^ d →
      ∃ tail : List Char, render int frac d = Nat.toDigits 10 int ++ '.' :: tail
        ∧ tail.length = d
        ∧ (∀ c ∈ tail, '0'.toNat ≤ c.toNat ∧ c.toNat ≤ '9'.toNat)
        ∧ tail.foldl (fun v c => v * 10 + (c.toNat - '0'.toNat)) 0 = frac)

/-! The register window (10_state.md, 20_memory.md) -/

/-- R26: the layout of STATUS, with the fifteen values of CODE (R231), and the effect of a host write,
which is accepted at any time: each W1C bit that is 1 in the value is cleared, no other bit and no other
state changes. -/
def Obligations.StatusLayoutAndClear : Prop :=
  (∀ st : Status,
    (statusWord st).getLsbD 0 = st.busy ∧ (statusWord st).getLsbD 1 = st.done
    ∧ (statusWord st).getLsbD 2 = decide (st.mode = .pwm)
    ∧ (statusWord st).getLsbD 3 = st.autorange
    ∧ (statusWord st).extractLsb' 4 4 = 0 ∧ (statusWord st).extractLsb' 8 8 = codeByte st.code
    ∧ (st.code, (statusWord st).extractLsb' 8 8) ∈
      [(Code.none, 0x00), (.pwmDisabled, 0x01), (.pwmEnabled, 0x02), (.servoEnabled, 0x03),
        (.tooLow, 0x04), (.modeConflict, 0x05), (.measured, 0x06), (.hizSet, 0x07),
        (.drivenHigh, 0x08), (.drivenLow, 0x09), (.pinLevel, 0x0A), (.illegal, 0x80), (.range, 0x81),
        (.precond, 0x82), (.arith, 0x83)]
    ∧ (statusWord st).getLsbD 16 = st.eIllegal ∧ (statusWord st).getLsbD 17 = st.eRange
    ∧ (statusWord st).getLsbD 18 = st.eBusy ∧ (statusWord st).getLsbD 19 = st.ePrecond
    ∧ (statusWord st).getLsbD 20 = st.eArith ∧ (statusWord st).extractLsb' 21 11 = 0)
  ∧ ∀ (s : State) (rest : List Input) (v : Word), s.inputs = wr s.params .status v :: rest →
    ∃ t, step s = .next t ∧ t = { s with inputs := rest, status := t.status }
      ∧ ∀ b : Nat, b < 32 →
        (statusWord t.status).getLsbD b =
          ((statusWord s.status).getLsbD b
            && !(v.getLsbD b && (b == 1 || (decide (16 ≤ b) && decide (b ≤ 20)))))

/-- R25, R33 to R41: what each register of the window but STATUS reads as, by the positions of its fields
and the literal codes of RATIO, KIND and FUNC; the bits of every register that no rule names read 0.
(STATUS by its fields: `StatusLayoutAndClear`.) -/
def Obligations.EveryRegisterReadsItsFields : Prop :=
  ∀ s : State,
    readReg .cmd s = s.cmd ∧ readReg .status s = statusWord s.status
    ∧ readReg .resultInt s = s.result.int ∧ readReg .resultFrac s = s.result.frac
    ∧ (readReg .resultDigits s).extractLsb' 0 4 = s.result.digits
    ∧ (readReg .pcfg s).extractLsb' 0 16 = s.pcfg.freq
    ∧ (readReg .pcfg s).extractLsb' 16 8 = s.pcfg.duty
    ∧ (readReg .pcfg s).extractLsb' 24 8 = s.pcfg.angle
    ∧ (s.gen.ratio, (readReg .genCfg s).extractLsb' 0 2) ∈
      [(Ratio.r1, 0), (.r8, 1), (.r64, 2), (.r256, 3)]
    ∧ (readReg .genCfg s).getLsbD 8 = s.gen.en
    ∧ (s.gen.kind, (readReg .genCfg s).extractLsb' 12 2) ∈
      [(GenKind.none, 0), (.pulse, 1), (.servo, 2)]
    ∧ (readReg .genPeriod s).extractLsb' 0 16 = s.gen.period
    ∧ (readReg .genCompare s).extractLsb' 0 16 = s.gen.compare
    ∧ (s.pin.func, (readReg .pin s).extractLsb' 0 2) ∈
      [(PinFunc.digitalIn, 0), (.digitalOut, 1), (.pwmOut, 2), (.captureIn, 3)]
    ∧ (readReg .pin s).getLsbD 4 = s.pin.latch
    ∧ readReg .gateRaw1 s = s.obs.raw1 ∧ readReg .gateRaw2 s = s.obs.raw2
    ∧ readReg .avgN s = s.obs.avgN ∧ readReg .avgSumLo s = s.obs.sumLo
    ∧ readReg .avgSumHi s = s.obs.sumHi ∧ readReg .avgMean s = s.obs.mean
    ∧ readReg .status s &&& 0xFFE000F0 = 0 ∧ readReg .resultDigits s &&& 0xFFFFFFF0 = 0
    ∧ readReg .genCfg s &&& 0xFFFFCEFC = 0 ∧ readReg .genPeriod s &&& 0xFFFF0000 = 0
    ∧ readReg .genCompare s &&& 0xFFFF0000 = 0 ∧ readReg .pin s &&& 0xFFFFFFEC = 0

/-- R65: a read returns the register and changes nothing; a write to a register other than CMD and
STATUS changes nothing. (`inputs` and `reply` are the model's own.) -/
def Obligations.ReadsAndOtherWritesChangeNothing : Prop :=
  ∀ (s : State) (rest : List Input) (r : Reg),
    (s.inputs = rd s.params r :: rest →
      step s = .next { s with inputs := rest, reply := some (readReg r s) })
    ∧ (∀ v : Word, r ≠ .cmd → r ≠ .status → s.inputs = wr s.params r v :: rest →
      step s = .next { s with inputs := rest })

/-- R24, R60, R62, R63: the sixteen registers at their offsets from P_BASE; inside the window exactly the
aligned offsets hold a register, one each; a narrower or misaligned access is a bus error. (That an
access wider than 32 bits, which R63 does not name, is one too is the model's inference from R62,
log 14.) -/
def Obligations.MisalignedOrNarrowAccessIsBusError : Prop :=
  [Reg.cmd, .status, .resultInt, .resultFrac, .resultDigits, .pcfg, .genCfg, .genPeriod, .genCompare,
      .pin, .gateRaw1, .gateRaw2, .avgN, .avgSumLo, .avgSumHi, .avgMean].map regOffset
    = [0x00, 0x04, 0x08, 0x0C, 0x10, 0x14, 0x18, 0x1C, 0x20, 0x24, 0x28, 0x2C, 0x30, 0x34, 0x38, 0x3C]
  ∧ (∀ off : Nat, (∃ r, regAt off = some r) ↔ off < 64 ∧ off % 4 = 0)
  ∧ (∀ (off : Nat) (r : Reg), regAt off = some r ↔ regOffset r = off)
  ∧ ∀ (s : State) (rest : List Input) (off width : Nat), off < 64 → (width ≠ 4 ∨ off % 4 ≠ 0) →
    (s.inputs = .bus (.read (s.params.base + off) width) :: rest → step s = .fault .busError)
    ∧ (∀ v : Word, s.inputs = .bus (.write (s.params.base + off) width v) :: rest →
      step s = .fault .busError)

/-- No step stops but for a host access outside 20_memory.md R62: a bus error, or, outside the window, the
refusal that is the model's choice (log 13). In particular no error completion is a fault (the model's
reading of R230, log 1), and with no input pending the block goes on by itself (the model's choice,
log 3). -/
def Obligations.OnlyIllegalAccessesStop : Prop :=
  ∀ s : State,
    ((∃ t, step s = .next t) ↔ s.inputs = [] ∨ ∃ x rest, s.inputs = x :: rest ∧ inputLegal s.params x = true)
    ∧ ((∃ t, step s = .next t) ∨ step s = .fault .busError ∨ step s = .refused .outsideWindow)

/-! Whole-machine rules -/

/-- R32: a sticky error bit falls only by a host write of 1 to it or by reset, so that no command and no
step of the sequencer clears one. It rises only by its event of R232: E_BUSY by a CMD write while a
command runs; E_ILLEGAL, E_RANGE and E_PRECOND at an accepted word that is no command, is out of range,
or needs IO mode in PWM mode; E_ARITH at a step of a running command; these four with the completion
that the step is, and its code. -/
def Obligations.StickyBitsStayUntilCleared : Prop :=
  ∀ (s t : State) (b : Nat), 16 ≤ b → b ≤ 20 → step s = .next t →
    ((statusWord s.status).getLsbD b = true → (statusWord t.status).getLsbD b = false →
      ∃ rest, s.inputs = .reset :: rest
        ∨ ∃ v : Word, s.inputs = wr s.params .status v :: rest ∧ v.getLsbD b = true)
    ∧ ((statusWord s.status).getLsbD b = false → (statusWord t.status).getLsbD b = true →
      (b = 18 ∧ s.status.busy = true ∧ ∃ w rest, s.inputs = cmdWrite s.params w :: rest)
      ∨ (t.status.busy = false ∧ t.status.done = true ∧ t.seq = .idle
        ∧ ((b = 16 ∧ t.status.code = .illegal
            ∧ ∃ w rest, s.acceptsNext w rest ∧ ∃ e, decode w = .error e)
          ∨ (b = 17 ∧ t.status.code = .range
            ∧ ∃ w rest, s.acceptsNext w rest
              ∧ ((∃ f d, decode w = .ok (.pulse f d) ∧ 1 ≤ f ∧ (16000 < f ∨ 100 < d))
                ∨ ∃ a, decode w = .ok (.servo a) ∧ 180 < a))
          ∨ (b = 19 ∧ t.status.code = .precond ∧ s.status.mode = .pwm
            ∧ ∃ w rest, s.acceptsNext w rest
              ∧ (decode w = .ok .read ∨ (∃ l, decode w = .ok (.drive l)) ∨ decode w = .ok .hiz))
          ∨ (b = 20 ∧ t.status.code = .arith ∧ s.seq ≠ .idle))))
    ∧ ∀ rest, s.inputs = .reset :: rest → (statusWord t.status).getLsbD b = false

/-- R30: STATUS.CODE changes only at a completion (or by reset): in a step that ends a running command or
one that the block accepts in it. -/
def Obligations.CodeChangesOnlyAtCompletion : Prop :=
  ∀ s t : State, step s = .next t → t.status.code ≠ s.status.code →
    (s.mayComplete ∧ t.status.busy = false ∧ t.status.done = true ∧ t.seq = .idle)
    ∨ ∃ rest, s.inputs = .reset :: rest

/-- R31: STATUS.MODE changes only by an accepted PULSE or SERVO (or by reset). -/
def Obligations.ModeChangesOnlyByGeneratorCommands : Prop :=
  ∀ s t : State, step s = .next t → t.status.mode ≠ s.status.mode →
    ∃ rest, s.inputs = .reset :: rest
      ∨ ∃ w, s.acceptsNext w rest
        ∧ ((∃ f d, decode w = .ok (.pulse f d)) ∨ ∃ a, decode w = .ok (.servo a))

/-- R141: how each command updates PCFG, and that nothing but an accepted PULSE or SERVO (or reset)
does. -/
def Obligations.OnlyGeneratorCommandsWritePulseConfig : Prop :=
  (∀ (s t : State) (f d a : Nat),
    (1 ≤ f → exec (.pulse f d) s = .next t → t.status.code = .pwmEnabled →
      t.pcfg = { freq := BitVec.ofNat 16 f, duty := BitVec.ofNat 8 d, angle := s.pcfg.angle })
    ∧ (exec (.pulse 0 d) s = .next t → t.pcfg = { s.pcfg with freq := 0 })
    ∧ (exec (.servo a) s = .next t → t.status.code = .servoEnabled →
      t.pcfg = { s.pcfg with angle := BitVec.ofNat 8 a })
    ∧ ((exec (.pulse f d) s = .next t ∨ exec (.servo a) s = .next t) → t.status.code = .range →
      t.pcfg = s.pcfg))
  ∧ ∀ s t : State, step s = .next t → t.pcfg ≠ s.pcfg →
    ∃ rest, s.inputs = .reset :: rest
      ∨ ∃ w, s.acceptsNext w rest
        ∧ ((∃ f d, decode w = .ok (.pulse f d)) ∨ ∃ a, decode w = .ok (.servo a))

/-- R34: the RESULT registers change only in the completion step of a command, one that runs or one that
the block accepts in it, that ends with MEASURED, TOO_LOW or PIN_LEVEL (or by reset). -/
def Obligations.ResultChangesOnlyAtItsCompletions : Prop :=
  ∀ s t : State, step s = .next t → t.result ≠ s.result →
    (s.mayComplete ∧ t.status.busy = false ∧ t.status.done = true ∧ t.seq = .idle
      ∧ (t.status.code = .measured ∨ t.status.code = .tooLow ∨ t.status.code = .pinLevel))
    ∨ ∃ rest, s.inputs = .reset :: rest

/-- R235: the codes each command can complete with; a MEASURE that starts completes later, by whatever step
that is not a reset, with a code of its own set, or never. -/
def Obligations.CodesOfEachCommand : Prop :=
  (∀ (s t : State) (f d : Nat), exec (.pulse f d) s = .next t →
    t.status.code ∈ [Code.pwmDisabled, Code.pwmEnabled, Code.range])
  ∧ (∀ (s t : State) (a : Nat), exec (.servo a) s = .next t →
    t.status.code ∈ [Code.servoEnabled, Code.range])
  ∧ (∀ s t : State, exec .measure s = .next t →
    t.status.code = .modeConflict ∨ (t.seq = .gate1 ∧ t.status.code = s.status.code))
  ∧ (∀ s t : State, step s = .next t → (∀ rest, s.inputs ≠ .reset :: rest) →
    s.status.busy = true → t.status.busy = false →
    t.status.code ∈ [Code.tooLow, Code.measured, Code.arith])
  ∧ (∀ s t : State, exec .read s = .next t → t.status.code ∈ [Code.pinLevel, Code.precond])
  ∧ (∀ (s t : State) (l : Bool), exec (.drive l) s = .next t →
    t.status.code ∈ [Code.drivenHigh, Code.drivenLow, Code.precond])
  ∧ (∀ s t : State, exec .hiz s = .next t → t.status.code ∈ [Code.hizSet, Code.precond])
  ∧ (∀ (s t : State) (w : Word) (rest : List Input), s.acceptsNext w rest →
    (∃ e, decode w = .error e) → step s = .next t → t.status.code = .illegal)

/-- 92_eei_decisions.md D17: the observation registers change no behaviour: two states that differ in
them alone step alike, but for those registers and what the host reads. -/
def Obligations.ObservationRegistersChangeNoBehaviour : Prop :=
  ∀ (s t : State) (o : Observed), step s = .next t →
    ∃ t' : State, step { s with obs := o } = .next t'
      ∧ { t' with obs := t.obs, reply := t.reply } = t

/-- R47, R260, R262: State.reset and every state a reset event leaves hold the reset values, with the
pin at high impedance; a busy command ends by completion or by reset, and in no other way. -/
def Obligations.ResetRestoresEverything : Prop :=
  State.reset.atResetValues
  ∧ (∀ (s : State) (rest : List Input), s.inputs = .reset :: rest →
    ∃ t, step s = .next t ∧ t.atResetValues ∧ pinDrive t = .highZ ∧ t.inputs = rest)
  ∧ (∀ s t : State, s.status.busy = true → step s = .next t → t.status.busy = false →
    (∀ rest, s.inputs ≠ .reset :: rest) → t.status.done = true ∧ t.seq = .idle)

/-- R21, R46, R112 at reset: the invariants hold there, and so they do for every other choice of the
parameters of R9 with a gate window of at least one tick (log 12). -/
def Obligations.ResetMeetsTheInvariants : Prop :=
  State.reset.Exclusive ∧ State.reset.InRange
  ∧ ∀ p : Params, 1 ≤ p.gateTicks →
    { State.reset with params := p }.Exclusive ∧ { State.reset with params := p }.InRange

/-- R21, R46, R112 as an invariant of every step. -/
def Obligations.StepsKeepModesExclusive : Prop :=
  ∀ s t : State, s.Exclusive → step s = .next t → t.Exclusive

/-- The ranges of the fields (R34, R35, R42 to R44, R170, R172) as an invariant of every step: the result
and configuration registers, the generator's counters, the gate's prescaler and its reference timer, which
stays in its window and has its expiry flag set exactly at the end, the capture buffer, and the averager,
whose sum never wraps. -/
def Obligations.StepsKeepFieldsInRange : Prop :=
  ∀ s t : State, s.Exclusive → s.InRange → step s = .next t → t.InRange

/-- R46: its five clauses hold in every state reached from reset, whatever the parameters are and whatever
the host and the environment do. -/
def Obligations.ReachedStatesMeetR46 : Prop :=
  ∀ (p : Params) (xs : List Input) (l : Option Bool) (k : Nat) (t : State),
    runSteps k { State.reset with params := p, inputs := xs, line := l } = .next t →
    (t.status.mode = .pwm ↔ t.gen.en = true) ∧ (t.gen.en = true ↔ t.pin.func = .pwmOut)
    ∧ (t.gen.en = false →
        t.gen.ratio = .r1 ∧ t.gen.kind = .none ∧ t.gen.period = 0 ∧ t.gen.compare = 0)
    ∧ (t.pin.func = .captureIn ↔ t.seq ≠ .idle)
    ∧ (t.gen.en = true → t.gen.compare ≤ t.gen.period)
    ∧ ¬(t.gen.en = true ∧ gateRuns t.gate = true) ∧ ¬(t.gen.en = true ∧ t.capture.enabled = true)
    ∧ ¬(gateRuns t.gate = true ∧ t.capture.enabled = true)

/-- The frame of time and of the environment (R42 to R45, R113): source ticks, edges, a level of the
pin and a turn of a sequencer that waits leave every register of the window as it was, and change nothing
but the counters they move; so does a step with no input while the sequencer waits (the model's choice,
log 3; that the turn is used up: log 17). That the timestamp counter, which R44 calls free-running, stands
still while the capture channels are disabled is the model's deduction (log 9). No step changes a
parameter (log 11), and the block drives no line but the one P_PIN_SEL selects (the form of the line and
its selector is the model's, log 21). -/
def Obligations.TimeAndEnvironmentLeaveRegistersAlone : Prop :=
  (∀ (s : State) (rest : List Input),
    (∀ n : Nat, s.inputs = .ticks n :: rest →
      ∃ t, step s = .next t ∧ { s with inputs := rest }.onlyTicked t
        ∧ ∀ r : Reg, readReg r t = readReg r s)
    ∧ (∀ n : Nat, s.inputs = .edges n :: rest →
      ∃ t, step s = .next t ∧ { s with inputs := rest }.onlyEdged t
        ∧ ∀ r : Reg, readReg r t = readReg r s)
    ∧ (∀ l : Option Bool, s.inputs = .level l :: rest →
      step s = .next { s with inputs := rest, line := l })
    ∧ (s.inputs = .sequencer :: rest → s.waits → step s = .next { s with inputs := rest })
    ∧ (s.inputs = [] → s.waits →
      ∃ t, step s = .next t ∧ s.onlyTicked t ∧ ∀ r : Reg, readReg r t = readReg r s))
  ∧ (∀ s t : State, step s = .next t → t.params = s.params)
  ∧ ∀ (s : State) (line : Nat),
    (line = s.params.pinSel → lineDrive line s = pinDrive s)
    ∧ (line ≠ s.params.pinSel → lineDrive line s = .highZ)

/-- R25, R28, R29: CMD changes only at an accepted CMD write, and then holds its word. DONE rises only in
the completion of a command that runs or is accepted in the step, and every completion leaves it 1; it
falls only by a host write of 1 to it or at the acceptance of a MEASURE in IO mode, which goes on.
AUTORANGE rises only where a first gate pass re-arms and falls only where a MEASURE passes its mode check.
Reset clears all three. -/
def Obligations.CmdDoneAndAutorangeChangeByTheirRules : Prop :=
  ∀ s t : State, step s = .next t →
    ((∀ rest, s.inputs ≠ .reset :: rest) →
      (t.cmd ≠ s.cmd → ∃ w rest, s.acceptsNext w rest)
      ∧ (∀ w rest, s.acceptsNext w rest → t.cmd = w)
      ∧ (s.status.done = false → t.status.done = true →
        s.mayComplete ∧ t.status.busy = false ∧ t.seq = .idle)
      ∧ (s.mayComplete → t.seq = .idle → t.status.done = true)
      ∧ (s.status.done = true → t.status.done = false →
        (∃ v rest, s.inputs = wr s.params .status v :: rest ∧ v.getLsbD 1 = true)
        ∨ ∃ w rest, s.acceptsNext w rest ∧ decode w = .ok .measure ∧ s.status.mode = .io)
      ∧ (s.status.autorange = false → t.status.autorange = true →
        s.seq = .gate1 ∧ s.gate.expired = true ∧ s.gate.count.toNat ≤ 0x3FFF ∧ t.seq = .gate2
        ∧ t.gate.ratio = .r1)
      ∧ (s.status.autorange = true → t.status.autorange = false →
        ∃ w rest, s.acceptsNext w rest ∧ decode w = .ok .measure ∧ s.status.mode = .io))
    ∧ ∀ rest, s.inputs = .reset :: rest →
      t.cmd = 0 ∧ t.status.done = false ∧ t.status.autorange = false
end

