-- ==== Sys2Proof/Laws/State.lean ====
section
/-! SUPPORT. One lemma per field per update of State, each true by rfl, so that no proof unfolds a
record update; then the fields of STATUS under its own updates. -/

namespace Sys2Proof.Machine

/-! A command word accepted (R100) -/

@[simp] theorem accept_seq (w : Word) (s : State) : (accept w s).seq = s.seq := rfl
@[simp] theorem accept_cmd (w : Word) (s : State) : (accept w s).cmd = w := rfl
@[simp] theorem accept_status (w : Word) (s : State) :
    (accept w s).status = acceptStatus s.status := rfl
@[simp] theorem accept_result (w : Word) (s : State) : (accept w s).result = s.result := rfl
@[simp] theorem accept_pcfg (w : Word) (s : State) : (accept w s).pcfg = s.pcfg := rfl
@[simp] theorem accept_gen (w : Word) (s : State) : (accept w s).gen = s.gen := rfl
@[simp] theorem accept_pin (w : Word) (s : State) : (accept w s).pin = s.pin := rfl
@[simp] theorem accept_obs (w : Word) (s : State) : (accept w s).obs = s.obs := rfl
@[simp] theorem accept_gate (w : Word) (s : State) : (accept w s).gate = s.gate := rfl
@[simp] theorem accept_capture (w : Word) (s : State) : (accept w s).capture = s.capture := rfl
@[simp] theorem accept_avg (w : Word) (s : State) : (accept w s).avg = s.avg := rfl
@[simp] theorem accept_params (w : Word) (s : State) : (accept w s).params = s.params := rfl
@[simp] theorem accept_inputs (w : Word) (s : State) : (accept w s).inputs = s.inputs := rfl
@[simp] theorem accept_reply (w : Word) (s : State) : (accept w s).reply = s.reply := rfl
@[simp] theorem accept_line (w : Word) (s : State) : (accept w s).line = s.line := rfl
@[simp] theorem accept_draws (w : Word) (s : State) : (accept w s).draws = s.draws := rfl

/-! A command completed (R103) -/

@[simp] theorem complete_seq (c : Code) (s : State) : (complete c s).seq = .idle := rfl
@[simp] theorem complete_cmd (c : Code) (s : State) : (complete c s).cmd = s.cmd := rfl
@[simp] theorem complete_status (c : Code) (s : State) :
    (complete c s).status = completeStatus c s.status := rfl
@[simp] theorem complete_result (c : Code) (s : State) : (complete c s).result = s.result := rfl
@[simp] theorem complete_pcfg (c : Code) (s : State) : (complete c s).pcfg = s.pcfg := rfl
@[simp] theorem complete_gen (c : Code) (s : State) : (complete c s).gen = s.gen := rfl
@[simp] theorem complete_pin (c : Code) (s : State) : (complete c s).pin = s.pin := rfl
@[simp] theorem complete_obs (c : Code) (s : State) : (complete c s).obs = s.obs := rfl
@[simp] theorem complete_gate (c : Code) (s : State) : (complete c s).gate = s.gate := rfl
@[simp] theorem complete_capture (c : Code) (s : State) : (complete c s).capture = s.capture := rfl
@[simp] theorem complete_avg (c : Code) (s : State) : (complete c s).avg = s.avg := rfl
@[simp] theorem complete_params (c : Code) (s : State) : (complete c s).params = s.params := rfl
@[simp] theorem complete_inputs (c : Code) (s : State) : (complete c s).inputs = s.inputs := rfl
@[simp] theorem complete_reply (c : Code) (s : State) : (complete c s).reply = s.reply := rfl
@[simp] theorem complete_line (c : Code) (s : State) : (complete c s).line = s.line := rfl
@[simp] theorem complete_draws (c : Code) (s : State) : (complete c s).draws = s.draws := rfl

/-! A command failed (R232) -/

@[simp] theorem failWith_seq (e : CmdError) (s : State) : (failWith e s).seq = .idle := rfl
@[simp] theorem failWith_cmd (e : CmdError) (s : State) : (failWith e s).cmd = s.cmd := rfl
@[simp] theorem failWith_status (e : CmdError) (s : State) :
    (failWith e s).status = completeStatus (errorCode e) (setErrorBit e s.status) := rfl
@[simp] theorem failWith_result (e : CmdError) (s : State) : (failWith e s).result = s.result := rfl
@[simp] theorem failWith_pcfg (e : CmdError) (s : State) : (failWith e s).pcfg = s.pcfg := rfl
@[simp] theorem failWith_gen (e : CmdError) (s : State) : (failWith e s).gen = s.gen := rfl
@[simp] theorem failWith_pin (e : CmdError) (s : State) : (failWith e s).pin = s.pin := rfl
@[simp] theorem failWith_obs (e : CmdError) (s : State) : (failWith e s).obs = s.obs := rfl
@[simp] theorem failWith_gate (e : CmdError) (s : State) : (failWith e s).gate = s.gate := rfl
@[simp] theorem failWith_capture (e : CmdError) (s : State) :
    (failWith e s).capture = s.capture := rfl
@[simp] theorem failWith_avg (e : CmdError) (s : State) : (failWith e s).avg = s.avg := rfl
@[simp] theorem failWith_params (e : CmdError) (s : State) : (failWith e s).params = s.params := rfl
@[simp] theorem failWith_inputs (e : CmdError) (s : State) : (failWith e s).inputs = s.inputs := rfl
@[simp] theorem failWith_reply (e : CmdError) (s : State) : (failWith e s).reply = s.reply := rfl
@[simp] theorem failWith_line (e : CmdError) (s : State) : (failWith e s).line = s.line := rfl
@[simp] theorem failWith_draws (e : CmdError) (s : State) : (failWith e s).draws = s.draws := rfl

/-! A CMD write refused (R101) -/

@[simp] theorem refuseBusy_seq (s : State) : (refuseBusy s).seq = s.seq := rfl
@[simp] theorem refuseBusy_cmd (s : State) : (refuseBusy s).cmd = s.cmd := rfl
@[simp] theorem refuseBusy_status (s : State) :
    (refuseBusy s).status = { s.status with eBusy := true } := rfl
@[simp] theorem refuseBusy_result (s : State) : (refuseBusy s).result = s.result := rfl
@[simp] theorem refuseBusy_pcfg (s : State) : (refuseBusy s).pcfg = s.pcfg := rfl
@[simp] theorem refuseBusy_gen (s : State) : (refuseBusy s).gen = s.gen := rfl
@[simp] theorem refuseBusy_pin (s : State) : (refuseBusy s).pin = s.pin := rfl
@[simp] theorem refuseBusy_obs (s : State) : (refuseBusy s).obs = s.obs := rfl
@[simp] theorem refuseBusy_gate (s : State) : (refuseBusy s).gate = s.gate := rfl
@[simp] theorem refuseBusy_capture (s : State) : (refuseBusy s).capture = s.capture := rfl
@[simp] theorem refuseBusy_avg (s : State) : (refuseBusy s).avg = s.avg := rfl
@[simp] theorem refuseBusy_params (s : State) : (refuseBusy s).params = s.params := rfl
@[simp] theorem refuseBusy_inputs (s : State) : (refuseBusy s).inputs = s.inputs := rfl
@[simp] theorem refuseBusy_reply (s : State) : (refuseBusy s).reply = s.reply := rfl
@[simp] theorem refuseBusy_line (s : State) : (refuseBusy s).line = s.line := rfl
@[simp] theorem refuseBusy_draws (s : State) : (refuseBusy s).draws = s.draws := rfl

/-! TimingReset (R107) -/

@[simp] theorem timingReset_seq (s : State) : (timingReset s).seq = s.seq := rfl
@[simp] theorem timingReset_cmd (s : State) : (timingReset s).cmd = s.cmd := rfl
@[simp] theorem timingReset_status (s : State) : (timingReset s).status = s.status := rfl
@[simp] theorem timingReset_result (s : State) : (timingReset s).result = s.result := rfl
@[simp] theorem timingReset_pcfg (s : State) : (timingReset s).pcfg = s.pcfg := rfl
@[simp] theorem timingReset_gen (s : State) : (timingReset s).gen = Generator.neutral := rfl
@[simp] theorem timingReset_pin (s : State) : (timingReset s).pin = detach s.pin := rfl
@[simp] theorem timingReset_obs (s : State) : (timingReset s).obs = s.obs := rfl
@[simp] theorem timingReset_gate (s : State) : (timingReset s).gate = disableGate s.gate := rfl
@[simp] theorem timingReset_capture (s : State) :
    (timingReset s).capture = disableCapture s.capture := rfl
@[simp] theorem timingReset_avg (s : State) : (timingReset s).avg = s.avg := rfl
@[simp] theorem timingReset_params (s : State) : (timingReset s).params = s.params := rfl
@[simp] theorem timingReset_inputs (s : State) : (timingReset s).inputs = s.inputs := rfl
@[simp] theorem timingReset_reply (s : State) : (timingReset s).reply = s.reply := rfl
@[simp] theorem timingReset_line (s : State) : (timingReset s).line = s.line := rfl
@[simp] theorem timingReset_draws (s : State) : (timingReset s).draws = s.draws := rfl

/-! The generator started (R133, R136) -/

@[simp] theorem startGenerator_seq (r : Ratio) (k : GenKind) (p c : Nat) (s : State) :
    (startGenerator r k p c s).seq = s.seq := rfl
@[simp] theorem startGenerator_cmd (r : Ratio) (k : GenKind) (p c : Nat) (s : State) :
    (startGenerator r k p c s).cmd = s.cmd := rfl
@[simp] theorem startGenerator_status (r : Ratio) (k : GenKind) (p c : Nat) (s : State) :
    (startGenerator r k p c s).status = { s.status with mode := .pwm } := rfl
@[simp] theorem startGenerator_result (r : Ratio) (k : GenKind) (p c : Nat) (s : State) :
    (startGenerator r k p c s).result = s.result := rfl
@[simp] theorem startGenerator_pcfg (r : Ratio) (k : GenKind) (p c : Nat) (s : State) :
    (startGenerator r k p c s).pcfg = s.pcfg := rfl
@[simp] theorem startGenerator_gen (r : Ratio) (k : GenKind) (p c : Nat) (s : State) :
    (startGenerator r k p c s).gen = 
      { ratio := r, en := true, kind := k, period := BitVec.ofNat 16 p,
        compare := BitVec.ofNat 16 c, gc := 0, gp := 0 } := rfl
@[simp] theorem startGenerator_pin (r : Ratio) (k : GenKind) (p c : Nat) (s : State) :
    (startGenerator r k p c s).pin = { detach s.pin with func := .pwmOut } := rfl
@[simp] theorem startGenerator_obs (r : Ratio) (k : GenKind) (p c : Nat) (s : State) :
    (startGenerator r k p c s).obs = s.obs := rfl
@[simp] theorem startGenerator_gate (r : Ratio) (k : GenKind) (p c : Nat) (s : State) :
    (startGenerator r k p c s).gate = disableGate s.gate := rfl
@[simp] theorem startGenerator_capture (r : Ratio) (k : GenKind) (p c : Nat) (s : State) :
    (startGenerator r k p c s).capture = disableCapture s.capture := rfl
@[simp] theorem startGenerator_avg (r : Ratio) (k : GenKind) (p c : Nat) (s : State) :
    (startGenerator r k p c s).avg = s.avg := rfl
@[simp] theorem startGenerator_params (r : Ratio) (k : GenKind) (p c : Nat) (s : State) :
    (startGenerator r k p c s).params = s.params := rfl
@[simp] theorem startGenerator_inputs (r : Ratio) (k : GenKind) (p c : Nat) (s : State) :
    (startGenerator r k p c s).inputs = s.inputs := rfl
@[simp] theorem startGenerator_reply (r : Ratio) (k : GenKind) (p c : Nat) (s : State) :
    (startGenerator r k p c s).reply = s.reply := rfl
@[simp] theorem startGenerator_line (r : Ratio) (k : GenKind) (p c : Nat) (s : State) :
    (startGenerator r k p c s).line = s.line := rfl
@[simp] theorem startGenerator_draws (r : Ratio) (k : GenKind) (p c : Nat) (s : State) :
    (startGenerator r k p c s).draws = s.draws := rfl

/-! A gate pass armed (R164) -/

@[simp] theorem arm_seq (r : Ratio) (s : State) : (arm r s).seq = s.seq := rfl
@[simp] theorem arm_cmd (r : Ratio) (s : State) : (arm r s).cmd = s.cmd := rfl
@[simp] theorem arm_status (r : Ratio) (s : State) : (arm r s).status = s.status := rfl
@[simp] theorem arm_result (r : Ratio) (s : State) : (arm r s).result = s.result := rfl
@[simp] theorem arm_pcfg (r : Ratio) (s : State) : (arm r s).pcfg = s.pcfg := rfl
@[simp] theorem arm_gen (r : Ratio) (s : State) : (arm r s).gen = s.gen := rfl
@[simp] theorem arm_pin (r : Ratio) (s : State) : (arm r s).pin = s.pin := rfl
@[simp] theorem arm_obs (r : Ratio) (s : State) : (arm r s).obs = s.obs := rfl
@[simp] theorem arm_gate (r : Ratio) (s : State) :
    (arm r s).gate = 
      { count := 0, prescaler := 0, ratio := r, refTimer := .running 0, expired := false } := rfl
@[simp] theorem arm_capture (r : Ratio) (s : State) : (arm r s).capture = s.capture := rfl
@[simp] theorem arm_avg (r : Ratio) (s : State) : (arm r s).avg = s.avg := rfl
@[simp] theorem arm_params (r : Ratio) (s : State) : (arm r s).params = s.params := rfl
@[simp] theorem arm_inputs (r : Ratio) (s : State) : (arm r s).inputs = s.inputs := rfl
@[simp] theorem arm_reply (r : Ratio) (s : State) : (arm r s).reply = s.reply := rfl
@[simp] theorem arm_line (r : Ratio) (s : State) : (arm r s).line = s.line := rfl
@[simp] theorem arm_draws (r : Ratio) (s : State) : (arm r s).draws = s.draws := rfl

/-! Source ticks -/

@[simp] theorem passTicks_seq (n : Nat) (s : State) : (passTicks n s).seq = s.seq := rfl
@[simp] theorem passTicks_cmd (n : Nat) (s : State) : (passTicks n s).cmd = s.cmd := rfl
@[simp] theorem passTicks_status (n : Nat) (s : State) : (passTicks n s).status = s.status := rfl
@[simp] theorem passTicks_result (n : Nat) (s : State) : (passTicks n s).result = s.result := rfl
@[simp] theorem passTicks_pcfg (n : Nat) (s : State) : (passTicks n s).pcfg = s.pcfg := rfl
@[simp] theorem passTicks_gen (n : Nat) (s : State) :
    (passTicks n s).gen = advanceGenerator n s.gen := rfl
@[simp] theorem passTicks_pin (n : Nat) (s : State) : (passTicks n s).pin = s.pin := rfl
@[simp] theorem passTicks_obs (n : Nat) (s : State) : (passTicks n s).obs = s.obs := rfl
@[simp] theorem passTicks_gate (n : Nat) (s : State) :
    (passTicks n s).gate = advanceRefTimer s.params.gateTicks n s.gate := rfl
@[simp] theorem passTicks_capture (n : Nat) (s : State) :
    (passTicks n s).capture = advanceTimestamp n s.capture := rfl
@[simp] theorem passTicks_avg (n : Nat) (s : State) : (passTicks n s).avg = s.avg := rfl
@[simp] theorem passTicks_params (n : Nat) (s : State) : (passTicks n s).params = s.params := rfl
@[simp] theorem passTicks_inputs (n : Nat) (s : State) : (passTicks n s).inputs = s.inputs := rfl
@[simp] theorem passTicks_reply (n : Nat) (s : State) : (passTicks n s).reply = s.reply := rfl
@[simp] theorem passTicks_line (n : Nat) (s : State) : (passTicks n s).line = s.line := rfl
@[simp] theorem passTicks_draws (n : Nat) (s : State) : (passTicks n s).draws = s.draws := rfl

/-! Rising edges -/

@[simp] theorem passEdges_seq (n : Nat) (s : State) : (passEdges n s).seq = s.seq := rfl
@[simp] theorem passEdges_cmd (n : Nat) (s : State) : (passEdges n s).cmd = s.cmd := rfl
@[simp] theorem passEdges_status (n : Nat) (s : State) : (passEdges n s).status = s.status := rfl
@[simp] theorem passEdges_result (n : Nat) (s : State) : (passEdges n s).result = s.result := rfl
@[simp] theorem passEdges_pcfg (n : Nat) (s : State) : (passEdges n s).pcfg = s.pcfg := rfl
@[simp] theorem passEdges_gen (n : Nat) (s : State) : (passEdges n s).gen = s.gen := rfl
@[simp] theorem passEdges_pin (n : Nat) (s : State) : (passEdges n s).pin = s.pin := rfl
@[simp] theorem passEdges_obs (n : Nat) (s : State) : (passEdges n s).obs = s.obs := rfl
@[simp] theorem passEdges_gate (n : Nat) (s : State) :
    (passEdges n s).gate = countEdges n s.gate := rfl
@[simp] theorem passEdges_capture (n : Nat) (s : State) :
    (passEdges n s).capture = captureEdges n s.capture := rfl
@[simp] theorem passEdges_avg (n : Nat) (s : State) : (passEdges n s).avg = s.avg := rfl
@[simp] theorem passEdges_params (n : Nat) (s : State) : (passEdges n s).params = s.params := rfl
@[simp] theorem passEdges_inputs (n : Nat) (s : State) : (passEdges n s).inputs = s.inputs := rfl
@[simp] theorem passEdges_reply (n : Nat) (s : State) : (passEdges n s).reply = s.reply := rfl
@[simp] theorem passEdges_line (n : Nat) (s : State) : (passEdges n s).line = s.line := rfl
@[simp] theorem passEdges_draws (n : Nat) (s : State) : (passEdges n s).draws = s.draws := rfl

/-! The environment's level -/

@[simp] theorem setLine_seq (l : Option Bool) (s : State) : (setLine l s).seq = s.seq := rfl
@[simp] theorem setLine_cmd (l : Option Bool) (s : State) : (setLine l s).cmd = s.cmd := rfl
@[simp] theorem setLine_status (l : Option Bool) (s : State) :
    (setLine l s).status = s.status := rfl
@[simp] theorem setLine_result (l : Option Bool) (s : State) :
    (setLine l s).result = s.result := rfl
@[simp] theorem setLine_pcfg (l : Option Bool) (s : State) : (setLine l s).pcfg = s.pcfg := rfl
@[simp] theorem setLine_gen (l : Option Bool) (s : State) : (setLine l s).gen = s.gen := rfl
@[simp] theorem setLine_pin (l : Option Bool) (s : State) : (setLine l s).pin = s.pin := rfl
@[simp] theorem setLine_obs (l : Option Bool) (s : State) : (setLine l s).obs = s.obs := rfl
@[simp] theorem setLine_gate (l : Option Bool) (s : State) : (setLine l s).gate = s.gate := rfl
@[simp] theorem setLine_capture (l : Option Bool) (s : State) :
    (setLine l s).capture = s.capture := rfl
@[simp] theorem setLine_avg (l : Option Bool) (s : State) : (setLine l s).avg = s.avg := rfl
@[simp] theorem setLine_params (l : Option Bool) (s : State) :
    (setLine l s).params = s.params := rfl
@[simp] theorem setLine_inputs (l : Option Bool) (s : State) :
    (setLine l s).inputs = s.inputs := rfl
@[simp] theorem setLine_reply (l : Option Bool) (s : State) : (setLine l s).reply = s.reply := rfl
@[simp] theorem setLine_line (l : Option Bool) (s : State) : (setLine l s).line = l := rfl
@[simp] theorem setLine_draws (l : Option Bool) (s : State) : (setLine l s).draws = s.draws := rfl

/-! A MEASURE's exit with a result (R179) -/

@[simp] theorem exitMeasure_seq (c : Code) (i f d : Nat) (s : State) :
    (exitMeasure c i f d s).seq = .idle := rfl
@[simp] theorem exitMeasure_cmd (c : Code) (i f d : Nat) (s : State) :
    (exitMeasure c i f d s).cmd = s.cmd := rfl
@[simp] theorem exitMeasure_status (c : Code) (i f d : Nat) (s : State) :
    (exitMeasure c i f d s).status = completeStatus c s.status := rfl
@[simp] theorem exitMeasure_result (c : Code) (i f d : Nat) (s : State) :
    (exitMeasure c i f d s).result = 
      { int := BitVec.ofNat 32 i, frac := BitVec.ofNat 32 f, digits := BitVec.ofNat 4 d } := rfl
@[simp] theorem exitMeasure_pcfg (c : Code) (i f d : Nat) (s : State) :
    (exitMeasure c i f d s).pcfg = s.pcfg := rfl
@[simp] theorem exitMeasure_gen (c : Code) (i f d : Nat) (s : State) :
    (exitMeasure c i f d s).gen = Generator.neutral := rfl
@[simp] theorem exitMeasure_pin (c : Code) (i f d : Nat) (s : State) :
    (exitMeasure c i f d s).pin = detach s.pin := rfl
@[simp] theorem exitMeasure_obs (c : Code) (i f d : Nat) (s : State) :
    (exitMeasure c i f d s).obs = s.obs := rfl
@[simp] theorem exitMeasure_gate (c : Code) (i f d : Nat) (s : State) :
    (exitMeasure c i f d s).gate = disableGate s.gate := rfl
@[simp] theorem exitMeasure_capture (c : Code) (i f d : Nat) (s : State) :
    (exitMeasure c i f d s).capture = disableCapture s.capture := rfl
@[simp] theorem exitMeasure_avg (c : Code) (i f d : Nat) (s : State) :
    (exitMeasure c i f d s).avg = s.avg := rfl
@[simp] theorem exitMeasure_params (c : Code) (i f d : Nat) (s : State) :
    (exitMeasure c i f d s).params = s.params := rfl
@[simp] theorem exitMeasure_inputs (c : Code) (i f d : Nat) (s : State) :
    (exitMeasure c i f d s).inputs = s.inputs := rfl
@[simp] theorem exitMeasure_reply (c : Code) (i f d : Nat) (s : State) :
    (exitMeasure c i f d s).reply = s.reply := rfl
@[simp] theorem exitMeasure_line (c : Code) (i f d : Nat) (s : State) :
    (exitMeasure c i f d s).line = s.line := rfl
@[simp] theorem exitMeasure_draws (c : Code) (i f d : Nat) (s : State) :
    (exitMeasure c i f d s).draws = s.draws := rfl

/-! A MEASURE's exit without a result (R179) -/

@[simp] theorem exitMeasureFail_seq (s : State) : (exitMeasureFail s).seq = .idle := rfl
@[simp] theorem exitMeasureFail_cmd (s : State) : (exitMeasureFail s).cmd = s.cmd := rfl
@[simp] theorem exitMeasureFail_status (s : State) :
    (exitMeasureFail s).status = completeStatus .arith { s.status with eArith := true } := rfl
@[simp] theorem exitMeasureFail_result (s : State) : (exitMeasureFail s).result = s.result := rfl
@[simp] theorem exitMeasureFail_pcfg (s : State) : (exitMeasureFail s).pcfg = s.pcfg := rfl
@[simp] theorem exitMeasureFail_gen (s : State) : (exitMeasureFail s).gen = Generator.neutral := rfl
@[simp] theorem exitMeasureFail_pin (s : State) : (exitMeasureFail s).pin = detach s.pin := rfl
@[simp] theorem exitMeasureFail_obs (s : State) : (exitMeasureFail s).obs = s.obs := rfl
@[simp] theorem exitMeasureFail_gate (s : State) :
    (exitMeasureFail s).gate = disableGate s.gate := rfl
@[simp] theorem exitMeasureFail_capture (s : State) :
    (exitMeasureFail s).capture = disableCapture s.capture := rfl
@[simp] theorem exitMeasureFail_avg (s : State) : (exitMeasureFail s).avg = s.avg := rfl
@[simp] theorem exitMeasureFail_params (s : State) : (exitMeasureFail s).params = s.params := rfl
@[simp] theorem exitMeasureFail_inputs (s : State) : (exitMeasureFail s).inputs = s.inputs := rfl
@[simp] theorem exitMeasureFail_reply (s : State) : (exitMeasureFail s).reply = s.reply := rfl
@[simp] theorem exitMeasureFail_line (s : State) : (exitMeasureFail s).line = s.line := rfl
@[simp] theorem exitMeasureFail_draws (s : State) : (exitMeasureFail s).draws = s.draws := rfl

/-! A MEASURE's start (R163) -/

@[simp] theorem startMeasure_seq (s : State) : (startMeasure s).seq = .gate1 := rfl
@[simp] theorem startMeasure_cmd (s : State) : (startMeasure s).cmd = s.cmd := rfl
@[simp] theorem startMeasure_status (s : State) :
    (startMeasure s).status = { s.status with autorange := false } := rfl
@[simp] theorem startMeasure_result (s : State) : (startMeasure s).result = s.result := rfl
@[simp] theorem startMeasure_pcfg (s : State) : (startMeasure s).pcfg = s.pcfg := rfl
@[simp] theorem startMeasure_gen (s : State) : (startMeasure s).gen = Generator.neutral := rfl
@[simp] theorem startMeasure_pin (s : State) :
    (startMeasure s).pin = { detach s.pin with func := .captureIn } := rfl
@[simp] theorem startMeasure_obs (s : State) : (startMeasure s).obs = Observed.cleared := rfl
@[simp] theorem startMeasure_gate (s : State) :
    (startMeasure s).gate = 
      { count := 0, prescaler := 0, ratio := .r256, refTimer := .running 0, expired := false } := rfl
@[simp] theorem startMeasure_capture (s : State) :
    (startMeasure s).capture = disableCapture s.capture := rfl
@[simp] theorem startMeasure_avg (s : State) : (startMeasure s).avg = s.avg := rfl
@[simp] theorem startMeasure_params (s : State) : (startMeasure s).params = s.params := rfl
@[simp] theorem startMeasure_inputs (s : State) : (startMeasure s).inputs = s.inputs := rfl
@[simp] theorem startMeasure_reply (s : State) : (startMeasure s).reply = s.reply := rfl
@[simp] theorem startMeasure_line (s : State) : (startMeasure s).line = s.line := rfl
@[simp] theorem startMeasure_draws (s : State) : (startMeasure s).draws = s.draws := rfl

/-! The averager's start (R170) -/

@[simp] theorem startAverager_seq (c : Word) (s : State) :
    (startAverager c s).seq = .avgFirst := rfl
@[simp] theorem startAverager_cmd (c : Word) (s : State) : (startAverager c s).cmd = s.cmd := rfl
@[simp] theorem startAverager_status (c : Word) (s : State) :
    (startAverager c s).status = s.status := rfl
@[simp] theorem startAverager_result (c : Word) (s : State) :
    (startAverager c s).result = s.result := rfl
@[simp] theorem startAverager_pcfg (c : Word) (s : State) : (startAverager c s).pcfg = s.pcfg := rfl
@[simp] theorem startAverager_gen (c : Word) (s : State) : (startAverager c s).gen = s.gen := rfl
@[simp] theorem startAverager_pin (c : Word) (s : State) : (startAverager c s).pin = s.pin := rfl
@[simp] theorem startAverager_obs (c : Word) (s : State) :
    (startAverager c s).obs = { s.obs with avgN := c } := rfl
@[simp] theorem startAverager_gate (c : Word) (s : State) :
    (startAverager c s).gate = { s.gate with refTimer := .stopped } := rfl
@[simp] theorem startAverager_capture (c : Word) (s : State) :
    (startAverager c s).capture = { enabled := true, timestamp := 0, buffer := [] } := rfl
@[simp] theorem startAverager_avg (c : Word) (s : State) :
    (startAverager c s).avg = { s.avg with n := c } := rfl
@[simp] theorem startAverager_params (c : Word) (s : State) :
    (startAverager c s).params = s.params := rfl
@[simp] theorem startAverager_inputs (c : Word) (s : State) :
    (startAverager c s).inputs = s.inputs := rfl
@[simp] theorem startAverager_reply (c : Word) (s : State) :
    (startAverager c s).reply = s.reply := rfl
@[simp] theorem startAverager_line (c : Word) (s : State) : (startAverager c s).line = s.line := rfl
@[simp] theorem startAverager_draws (c : Word) (s : State) :
    (startAverager c s).draws = s.draws := rfl

/-! The averager's baseline (R171) -/

@[simp] theorem avgFirstStep_seq (t : Word) (s : State) : (avgFirstStep t s).seq = .avgLoop := rfl
@[simp] theorem avgFirstStep_cmd (t : Word) (s : State) : (avgFirstStep t s).cmd = s.cmd := rfl
@[simp] theorem avgFirstStep_status (t : Word) (s : State) :
    (avgFirstStep t s).status = s.status := rfl
@[simp] theorem avgFirstStep_result (t : Word) (s : State) :
    (avgFirstStep t s).result = s.result := rfl
@[simp] theorem avgFirstStep_pcfg (t : Word) (s : State) : (avgFirstStep t s).pcfg = s.pcfg := rfl
@[simp] theorem avgFirstStep_gen (t : Word) (s : State) : (avgFirstStep t s).gen = s.gen := rfl
@[simp] theorem avgFirstStep_pin (t : Word) (s : State) : (avgFirstStep t s).pin = s.pin := rfl
@[simp] theorem avgFirstStep_obs (t : Word) (s : State) : (avgFirstStep t s).obs = s.obs := rfl
@[simp] theorem avgFirstStep_gate (t : Word) (s : State) : (avgFirstStep t s).gate = s.gate := rfl
@[simp] theorem avgFirstStep_capture (t : Word) (s : State) :
    (avgFirstStep t s).capture = s.capture := rfl
@[simp] theorem avgFirstStep_avg (t : Word) (s : State) :
    (avgFirstStep t s).avg = { s.avg with prev := t, i := 0, sum := 0 } := rfl
@[simp] theorem avgFirstStep_params (t : Word) (s : State) :
    (avgFirstStep t s).params = s.params := rfl
@[simp] theorem avgFirstStep_inputs (t : Word) (s : State) :
    (avgFirstStep t s).inputs = s.inputs := rfl
@[simp] theorem avgFirstStep_reply (t : Word) (s : State) :
    (avgFirstStep t s).reply = s.reply := rfl
@[simp] theorem avgFirstStep_line (t : Word) (s : State) : (avgFirstStep t s).line = s.line := rfl
@[simp] theorem avgFirstStep_draws (t : Word) (s : State) :
    (avgFirstStep t s).draws = s.draws := rfl

/-! STATUS -/

@[simp] theorem acceptStatus_busy (st : Status) : (acceptStatus st).busy = true := rfl
@[simp] theorem acceptStatus_done (st : Status) : (acceptStatus st).done = false := rfl
@[simp] theorem acceptStatus_mode (st : Status) : (acceptStatus st).mode = st.mode := rfl
@[simp] theorem acceptStatus_autorange (st : Status) : (acceptStatus st).autorange = st.autorange := rfl
@[simp] theorem acceptStatus_code (st : Status) : (acceptStatus st).code = st.code := rfl
@[simp] theorem acceptStatus_eIllegal (st : Status) : (acceptStatus st).eIllegal = st.eIllegal := rfl
@[simp] theorem acceptStatus_eRange (st : Status) : (acceptStatus st).eRange = st.eRange := rfl
@[simp] theorem acceptStatus_eBusy (st : Status) : (acceptStatus st).eBusy = st.eBusy := rfl
@[simp] theorem acceptStatus_ePrecond (st : Status) : (acceptStatus st).ePrecond = st.ePrecond := rfl
@[simp] theorem acceptStatus_eArith (st : Status) : (acceptStatus st).eArith = st.eArith := rfl
@[simp] theorem completeStatus_busy (c : Code) (st : Status) :
    (completeStatus c st).busy = false := rfl
@[simp] theorem completeStatus_done (c : Code) (st : Status) :
    (completeStatus c st).done = true := rfl
@[simp] theorem completeStatus_mode (c : Code) (st : Status) :
    (completeStatus c st).mode = st.mode := rfl
@[simp] theorem completeStatus_autorange (c : Code) (st : Status) :
    (completeStatus c st).autorange = st.autorange := rfl
@[simp] theorem completeStatus_code (c : Code) (st : Status) :
    (completeStatus c st).code = c := rfl
@[simp] theorem completeStatus_eIllegal (c : Code) (st : Status) :
    (completeStatus c st).eIllegal = st.eIllegal := rfl
@[simp] theorem completeStatus_eRange (c : Code) (st : Status) :
    (completeStatus c st).eRange = st.eRange := rfl
@[simp] theorem completeStatus_eBusy (c : Code) (st : Status) :
    (completeStatus c st).eBusy = st.eBusy := rfl
@[simp] theorem completeStatus_ePrecond (c : Code) (st : Status) :
    (completeStatus c st).ePrecond = st.ePrecond := rfl
@[simp] theorem completeStatus_eArith (c : Code) (st : Status) :
    (completeStatus c st).eArith = st.eArith := rfl
@[simp] theorem clearStatus_busy (v : Word) (st : Status) :
    (clearStatus v st).busy = st.busy := rfl
@[simp] theorem clearStatus_done (v : Word) (st : Status) :
    (clearStatus v st).done = (st.done && !v.getLsbD 1) := rfl
@[simp] theorem clearStatus_mode (v : Word) (st : Status) :
    (clearStatus v st).mode = st.mode := rfl
@[simp] theorem clearStatus_autorange (v : Word) (st : Status) :
    (clearStatus v st).autorange = st.autorange := rfl
@[simp] theorem clearStatus_code (v : Word) (st : Status) :
    (clearStatus v st).code = st.code := rfl
@[simp] theorem clearStatus_eIllegal (v : Word) (st : Status) :
    (clearStatus v st).eIllegal = (st.eIllegal && !v.getLsbD 16) := rfl
@[simp] theorem clearStatus_eRange (v : Word) (st : Status) :
    (clearStatus v st).eRange = (st.eRange && !v.getLsbD 17) := rfl
@[simp] theorem clearStatus_eBusy (v : Word) (st : Status) :
    (clearStatus v st).eBusy = (st.eBusy && !v.getLsbD 18) := rfl
@[simp] theorem clearStatus_ePrecond (v : Word) (st : Status) :
    (clearStatus v st).ePrecond = (st.ePrecond && !v.getLsbD 19) := rfl
@[simp] theorem clearStatus_eArith (v : Word) (st : Status) :
    (clearStatus v st).eArith = (st.eArith && !v.getLsbD 20) := rfl
@[simp] theorem setErrorBit_busy (e : CmdError) (st : Status) :
    (setErrorBit e st).busy = st.busy := by cases e <;> rfl
@[simp] theorem setErrorBit_done (e : CmdError) (st : Status) :
    (setErrorBit e st).done = st.done := by cases e <;> rfl
@[simp] theorem setErrorBit_mode (e : CmdError) (st : Status) :
    (setErrorBit e st).mode = st.mode := by cases e <;> rfl
@[simp] theorem setErrorBit_autorange (e : CmdError) (st : Status) :
    (setErrorBit e st).autorange = st.autorange := by cases e <;> rfl
@[simp] theorem setErrorBit_code (e : CmdError) (st : Status) :
    (setErrorBit e st).code = st.code := by cases e <;> rfl
@[simp] theorem setErrorBit_eBusy (e : CmdError) (st : Status) :
    (setErrorBit e st).eBusy = st.eBusy := by cases e <;> rfl

/-! The pin and the gate -/

@[simp] theorem detach_latch (p : Pin) : (detach p).latch = p.latch := by
  unfold detach; split <;> rfl

theorem detach_func (p : Pin) :
    (detach p).func =
      match p.func with
      | .pwmOut => .digitalIn
      | .captureIn => .digitalIn
      | .digitalIn => .digitalIn
      | .digitalOut => .digitalOut := by
  unfold detach; split <;> simp_all

@[simp] theorem disableGate_count (g : Gate) : (disableGate g).count = 0 := rfl
@[simp] theorem disableGate_prescaler (g : Gate) : (disableGate g).prescaler = 0 := rfl
@[simp] theorem disableGate_ratio (g : Gate) : (disableGate g).ratio = g.ratio := rfl
@[simp] theorem disableGate_refTimer (g : Gate) : (disableGate g).refTimer = .stopped := rfl
@[simp] theorem disableGate_expired (g : Gate) : (disableGate g).expired = false := rfl
@[simp] theorem disableCapture_enabled (c : Capture) : (disableCapture c).enabled = false := rfl
@[simp] theorem disableCapture_timestamp (c : Capture) : (disableCapture c).timestamp = 0 := rfl
@[simp] theorem disableCapture_buffer (c : Capture) : (disableCapture c).buffer = c.buffer := rfl

@[simp] theorem countEdges_ratio (n : Nat) (g : Gate) : (countEdges n g).ratio = g.ratio := by
  unfold countEdges; split <;> rfl
@[simp] theorem countEdges_refTimer (n : Nat) (g : Gate) :
    (countEdges n g).refTimer = g.refTimer := by
  unfold countEdges; split <;> rfl
@[simp] theorem countEdges_expired (n : Nat) (g : Gate) :
    (countEdges n g).expired = g.expired := by
  unfold countEdges; split <;> rfl
@[simp] theorem advanceRefTimer_count (window n : Nat) (g : Gate) :
    (advanceRefTimer window n g).count = g.count := by
  unfold advanceRefTimer; split <;> rfl
@[simp] theorem advanceRefTimer_prescaler (window n : Nat) (g : Gate) :
    (advanceRefTimer window n g).prescaler = g.prescaler := by
  unfold advanceRefTimer; split <;> rfl
@[simp] theorem advanceRefTimer_ratio (window n : Nat) (g : Gate) :
    (advanceRefTimer window n g).ratio = g.ratio := by
  unfold advanceRefTimer; split <;> rfl
@[simp] theorem captureEdges_enabled (n : Nat) (c : Capture) :
    (captureEdges n c).enabled = c.enabled := by
  unfold captureEdges; split <;> rfl
@[simp] theorem captureEdges_timestamp (n : Nat) (c : Capture) :
    (captureEdges n c).timestamp = c.timestamp := by
  unfold captureEdges; split <;> rfl
@[simp] theorem advanceTimestamp_enabled (n : Nat) (c : Capture) :
    (advanceTimestamp n c).enabled = c.enabled := by
  unfold advanceTimestamp; split <;> rfl
@[simp] theorem advanceTimestamp_buffer (n : Nat) (c : Capture) :
    (advanceTimestamp n c).buffer = c.buffer := by
  unfold advanceTimestamp; split <;> rfl

/-! The generator -/

@[simp] theorem tickGenerator_ratio (g : Generator) : (tickGenerator g).ratio = g.ratio := by
  unfold tickGenerator; split <;> [split <;> rfl; rfl]
@[simp] theorem tickGenerator_en (g : Generator) : (tickGenerator g).en = g.en := by
  unfold tickGenerator; split <;> [split <;> rfl; rfl]
@[simp] theorem tickGenerator_kind (g : Generator) : (tickGenerator g).kind = g.kind := by
  unfold tickGenerator; split <;> [split <;> rfl; rfl]
@[simp] theorem tickGenerator_period (g : Generator) : (tickGenerator g).period = g.period := by
  unfold tickGenerator; split <;> [split <;> rfl; rfl]
@[simp] theorem tickGenerator_compare (g : Generator) :
    (tickGenerator g).compare = g.compare := by
  unfold tickGenerator; split <;> [split <;> rfl; rfl]

@[simp] theorem advanceGenerator_ratio (n : Nat) (g : Generator) :
    (advanceGenerator n g).ratio = g.ratio := by
  unfold advanceGenerator
  split
  · induction n generalizing g with
    | zero => rfl
    | succ n ih => simp_all [tickGeneratorTimes]
  · rfl
@[simp] theorem advanceGenerator_en (n : Nat) (g : Generator) :
    (advanceGenerator n g).en = g.en := by
  unfold advanceGenerator
  split
  · induction n generalizing g with
    | zero => rfl
    | succ n ih => simp_all [tickGeneratorTimes]
  · rfl
@[simp] theorem advanceGenerator_kind (n : Nat) (g : Generator) :
    (advanceGenerator n g).kind = g.kind := by
  unfold advanceGenerator
  split
  · induction n generalizing g with
    | zero => rfl
    | succ n ih => simp_all [tickGeneratorTimes]
  · rfl
@[simp] theorem advanceGenerator_period (n : Nat) (g : Generator) :
    (advanceGenerator n g).period = g.period := by
  unfold advanceGenerator
  split
  · induction n generalizing g with
    | zero => rfl
    | succ n ih => simp_all [tickGeneratorTimes]
  · rfl
@[simp] theorem advanceGenerator_compare (n : Nat) (g : Generator) :
    (advanceGenerator n g).compare = g.compare := by
  unfold advanceGenerator
  split
  · induction n generalizing g with
    | zero => rfl
    | succ n ih => simp_all [tickGeneratorTimes]
  · rfl

end Sys2Proof.Machine
end

