-- ==== Sys2Proof/Laws/Ops.lean ====
section
/-! SUPPORT. One lemma per shared operation and per meaning, saying once everything it can answer, so
that a proof cites it instead of unfolding. -/

namespace Sys2Proof.Machine

/-! Operands -/

/-- The quotient of the band is 0 exactly past 16000 (41_pulse_generator.md R131). -/
theorem bandQuotient_pos {f : Nat} (h1 : 1 ≤ f) : bandDivisor f / f ≠ 0 ↔ f ≤ 16000 := by
  unfold bandDivisor bandRatio
  repeat' split
  all_goals simp only [ratioDivisor, ne_eq, Nat.div_eq_zero_iff]
  all_goals omega

/-- The largest quotient of any legal frequency is 65 (R131). -/
theorem bandQuotient_le {f : Nat} (h1 : 1 ≤ f) : bandDivisor f / f ≤ 65 := by
  unfold bandDivisor bandRatio
  repeat' split
  all_goals simp only [ratioDivisor]
  · exact Nat.le_of_lt_succ (Nat.div_lt_of_lt_mul (by omega))
  all_goals exact Nat.le_of_lt_succ (Nat.div_lt_of_lt_mul (by omega))

theorem pulsePeriod_le {f : Nat} (h1 : 1 ≤ f) : pulsePeriod f ≤ 64 := by
  have := bandQuotient_le h1
  unfold pulsePeriod; omega

theorem pulseDuty_le {f d : Nat} (hd : d ≤ 100) : pulseDuty f d ≤ pulsePeriod f := by
  unfold pulseDuty
  exact Nat.div_le_of_le_mul (by nlinarith)

theorem servoDuty_le {a : Nat} (ha : a ≤ 180) : servoDuty a ≤ 126 := by
  unfold servoDuty servoPeriod; omega

theorem pulseInRange_iff {f d : Nat} (h1 : 1 ≤ f) :
    pulseInRange f d = true ↔ f ≤ 16000 ∧ d ≤ 100 := by
  unfold pulseInRange
  rw [Bool.and_eq_true, decide_eq_true_iff, decide_eq_true_iff, bandQuotient_pos h1]

theorem servoInRange_iff {a : Nat} : servoInRange a = true ↔ a ≤ 180 := by
  simp [servoInRange]

theorem decimalBand_cases (p : Nat) :
    decimalBand p = 1 ∨ decimalBand p = 2 ∨ decimalBand p = 3 ∨ decimalBand p = 4
      ∨ decimalBand p = 5 := by
  unfold decimalBand; repeat' split
  all_goals simp

/-! The gate, the capture pair, the generator -/

theorem gateCounts_cases {g : Gate} (h : gateCounts g = true) :
    (∃ e, g.refTimer = .running e) ∧ g.expired = false := by
  unfold gateCounts at h
  split at h
  · cases h
  · exact ⟨⟨_, ‹_›⟩, by simpa using h⟩

theorem advanceRefTimer_stopped {window n : Nat} {g : Gate} (h : g.refTimer = .stopped) :
    advanceRefTimer window n g = g := by
  unfold advanceRefTimer; rw [h]

theorem advanceRefTimer_running {window n e : Nat} {g : Gate} (h : g.refTimer = .running e) :
    advanceRefTimer window n g =
      { g with
        refTimer := .running (min (e + n) window)
        expired := g.expired || decide (window ≤ e + n) } := by
  unfold advanceRefTimer; rw [h]

theorem captureEdges_off {n : Nat} {c : Capture} (h : c.enabled = false) :
    captureEdges n c = c := by
  unfold captureEdges; simp [h]

theorem advanceTimestamp_off {n : Nat} {c : Capture} (h : c.enabled = false) :
    advanceTimestamp n c = c := by
  unfold advanceTimestamp; simp [h]

/-- A capture never makes the buffer longer than P_CAP_FIFO_DEPTH (10_state.md R44). -/
theorem pushCapture_length {t : Word} {b : List Word} (h : b.length ≤ Config.capDepth) :
    (pushCapture t b).length ≤ Config.capDepth := by
  unfold pushCapture
  split
  · simp; omega
  · rw [List.length_eraseIdx]
    have := Nat.mod_lt (Config.captureLost b t) (Nat.succ_pos b.length)
    simp only [List.length_append, List.length_cons, List.length_nil]
    split <;> omega

theorem pushCaptures_length {t : Word} {n : Nat} {b : List Word}
    (h : b.length ≤ Config.capDepth) : (pushCaptures t n b).length ≤ Config.capDepth := by
  induction n generalizing b with
  | zero => exact h
  | succ n ih => exact ih (pushCapture_length h)

/-- An empty buffer takes a capture, whatever its depth (00_scope.md R9: at least 1). -/
theorem pushCapture_nil (t : Word) : pushCapture t [] = [t] := by
  simp [pushCapture, Config.capDepth]

theorem advanceGenerator_off {n : Nat} {g : Generator} (h : g.en = false) :
    advanceGenerator n g = g := by
  unfold advanceGenerator; simp [h]

theorem tickGeneratorTimes_add (m n : Nat) (g : Generator) :
    tickGeneratorTimes (m + n) g = tickGeneratorTimes n (tickGeneratorTimes m g) := by
  induction m generalizing g with
  | zero => simp [tickGeneratorTimes]
  | succ m ih => rw [Nat.succ_add]; exact ih _

/-! The meanings -/

theorem execPulse_cases {f d : Nat} {s t : State} (h : execPulse f d s = .next t) :
    (f = 0 ∧ t = disablePulse s)
      ∨ (1 ≤ f ∧ f ≤ 16000 ∧ d ≤ 100 ∧ t = enablePulse f d s)
      ∨ (1 ≤ f ∧ ¬(f ≤ 16000 ∧ d ≤ 100) ∧ t = failWith .range s) := by
  unfold execPulse at h
  split at h
  · exact .inl ⟨‹_›, (by cases h; rfl)⟩
  · have h1 : 1 ≤ f := by omega
    split at h
    · have := (pulseInRange_iff h1).1 ‹_›
      exact .inr (.inl ⟨h1, this.1, this.2, by cases h; rfl⟩)
    · exact .inr (.inr ⟨h1, fun hc => ‹¬_› ((pulseInRange_iff h1).2 hc), by cases h; rfl⟩)

theorem execServo_cases {a : Nat} {s t : State} (h : execServo a s = .next t) :
    (a ≤ 180 ∧ t = enableServo (servoPrescaler s.params.servoRatio) a s)
      ∨ (180 < a ∧ t = failWith .range s) := by
  unfold execServo at h
  split at h
  · exact .inl ⟨servoInRange_iff.1 ‹_›, by cases h; rfl⟩
  · exact .inr ⟨by simpa [servoInRange_iff] using ‹¬servoInRange a = true›, by cases h; rfl⟩

theorem execMeasure_cases {s t : State} (h : execMeasure s = .next t) :
    (s.status.mode = .pwm ∧ t = complete .modeConflict s)
      ∨ (s.status.mode = .io ∧ t = startMeasure s) := by
  unfold execMeasure at h
  split at h
  · exact .inl ⟨‹_›, by cases h; rfl⟩
  · exact .inr ⟨‹_›, by cases h; rfl⟩

theorem inIoMode_cases {run : State → State} {s t : State} (h : inIoMode run s = .next t) :
    (s.status.mode = .io ∧ t = run s) ∨ (s.status.mode = .pwm ∧ t = failWith .precond s) := by
  unfold inIoMode at h
  split at h
  · exact .inl ⟨‹_›, by cases h; rfl⟩
  · exact .inr ⟨‹_›, by cases h; rfl⟩

/-- Every command answers a next state: an error is a completion, never a stop (60_exceptions.md
R230). -/
theorem exec_next (i : Instr) (s : State) : ∃ t, exec i s = .next t := by
  cases i with
  | pulse f d => simp only [exec, execPulse]; repeat' split
                 all_goals exact ⟨_, rfl⟩
  | servo a => simp only [exec, execServo]; split <;> exact ⟨_, rfl⟩
  | measure => simp only [exec, execMeasure]; split <;> exact ⟨_, rfl⟩
  | read => simp only [exec, execRead, inIoMode]; split <;> exact ⟨_, rfl⟩
  | drive l => simp only [exec, execDrive, inIoMode]; split <;> exact ⟨_, rfl⟩
  | hiz => simp only [exec, execHiz, inIoMode]; split <;> exact ⟨_, rfl⟩

/-! The sequencer -/

theorem finishCount_cases (v : Nat) (s : State) :
    (v < 2 ^ 32 ∧ finishCount v s = exitMeasure .measured v 0 0 s)
      ∨ (2 ^ 32 ≤ v ∧ finishCount v s = exitMeasureFail s) := by
  unfold finishCount
  split
  · exact .inl ⟨‹_›, rfl⟩
  · exact .inr ⟨by omega, rfl⟩

theorem gate1Step_cases (s : State) :
    (0x3FFF < s.gate.count.toNat
        ∧ gate1Step s =
          finishCount (s.gate.count.toNat * 256)
            { s with obs := { s.obs with raw1 := s.gate.count } })
      ∨ (s.gate.count.toNat ≤ 0x3FFF
        ∧ gate1Step s =
          { arm .r1 s with
            obs := { s.obs with raw1 := s.gate.count }
            status := { s.status with autorange := true }
            seq := .gate2 }) := by
  unfold gate1Step
  dsimp only
  split
  · exact .inl ⟨‹_›, rfl⟩
  · exact .inr ⟨by omega, rfl⟩

theorem gate2Step_cases (s : State) :
    (s.gate.count.toNat = 0
        ∧ gate2Step s =
          exitMeasure .tooLow 0 0 0 { s with obs := { s.obs with raw2 := s.gate.count } })
      ∨ (3999 < s.gate.count.toNat
        ∧ gate2Step s =
          finishCount s.gate.count.toNat { s with obs := { s.obs with raw2 := s.gate.count } })
      ∨ (1 ≤ s.gate.count.toNat ∧ s.gate.count.toNat ≤ 3999
        ∧ gate2Step s =
          startAverager s.gate.count { s with obs := { s.obs with raw2 := s.gate.count } }) := by
  unfold gate2Step
  dsimp only
  split
  · exact .inl ⟨‹_›, rfl⟩
  · split
    · exact .inr (.inl ⟨‹_›, rfl⟩)
    · exact .inr (.inr ⟨by omega, by omega, rfl⟩)

theorem takeMean_cases (s : State) :
    (s.avg.sum.toNat / s.avg.n.toNat = 0
        ∧ takeMean s = exitMeasureFail { s with obs := { s.obs with mean := 0 } })
      ∨ (1 ≤ s.avg.sum.toNat / s.avg.n.toNat
        ∧ takeMean s =
          exitMeasure .measured (decimalInt (s.avg.sum.toNat / s.avg.n.toNat))
            (decimalFrac (s.avg.sum.toNat / s.avg.n.toNat))
            (decimalBand (s.avg.sum.toNat / s.avg.n.toNat))
            { s with
              obs := { s.obs with
                mean := BitVec.ofNat 32 (s.avg.sum.toNat / s.avg.n.toNat) } }) := by
  unfold takeMean
  dsimp only
  split
  · rename_i h
    exact .inl ⟨h, by rw [h]; rfl⟩
  · exact .inr ⟨Nat.pos_of_ne_zero ‹_›, rfl⟩

theorem avgLoopStep_cases (t : Word) (s : State) :
    (s.avg.i + 1 = s.avg.n ∧ avgLoopStep t s = takeMean (accumulate t s))
      ∨ (s.avg.i + 1 ≠ s.avg.n ∧ avgLoopStep t s = accumulate t s) := by
  unfold avgLoopStep
  dsimp only
  by_cases h : s.avg.i + 1 = s.avg.n
  · exact .inl ⟨h, if_pos h⟩
  · exact .inr ⟨h, if_neg h⟩

/-- Everything a turn of the sequencer can do. -/
theorem seqTurn_cases (s : State) :
    seqTurn s = s
      ∨ (s.seq = .gate1 ∧ s.gate.expired = true ∧ seqTurn s = gate1Step s)
      ∨ (s.seq = .gate2 ∧ s.gate.expired = true ∧ seqTurn s = gate2Step s)
      ∨ (s.seq = .avgFirst ∧ ∃ t b, s.capture.buffer = t :: b
          ∧ seqTurn s = avgFirstStep t { s with capture := { s.capture with buffer := b } })
      ∨ (s.seq = .avgLoop ∧ ∃ t b, s.capture.buffer = t :: b
          ∧ seqTurn s = avgLoopStep t { s with capture := { s.capture with buffer := b } }) := by
  rcases hs : s.seq with _ | _ | _ | _ | _
  · left; simp [seqTurn, hs]
  · cases he : s.gate.expired
    · left; simp [seqTurn, withExpiry, hs, he]
    · right; left; simp [seqTurn, withExpiry, hs, he]
  · cases he : s.gate.expired
    · left; simp [seqTurn, withExpiry, hs, he]
    · right; right; left; simp [seqTurn, withExpiry, hs, he]
  · rcases hb : s.capture.buffer with _ | ⟨t, b⟩
    · left; simp [seqTurn, withCapture, hs, hb]
    · right; right; right; left
      exact ⟨rfl, t, b, rfl, by simp [seqTurn, withCapture, hs, hb]⟩
  · rcases hb : s.capture.buffer with _ | ⟨t, b⟩
    · left; simp [seqTurn, withCapture, hs, hb]
    · right; right; right; right
      exact ⟨rfl, t, b, rfl, by simp [seqTurn, withCapture, hs, hb]⟩

end Sys2Proof.Machine
end

