-- ==== Sys2Proof/Laws/Step.lean ====
section
/-! SUPPORT. What a host access and a step can answer, said once. -/

namespace Sys2Proof.Machine

theorem regAt_regOffset (r : Reg) : regAt (regOffset r) = some r := by cases r <;> rfl

theorem regOffset_of_regAt {off : Nat} {r : Reg} (h : regAt off = some r) : regOffset r = off := by
  unfold regAt at h
  split at h <;> first | (cases h; rfl) | cases h

theorem regOffset_lt (r : Reg) : regOffset r < windowBytes := by cases r <;> decide

/-- Every register is selected at its offset from the base address (20_memory.md R60). -/
theorem selectReg_regOffset (base : Nat) (r : Reg) :
    selectReg base (base + regOffset r) 4 = .ok r := by
  have := regOffset_lt r
  unfold selectReg
  rw [if_neg (by omega), if_pos rfl, Nat.add_sub_cancel_left, regAt_regOffset]

/-- An access selects a register only where it is 32 bits wide at that register's offset. -/
theorem selectReg_ok {base addr width : Nat} {r : Reg} (h : selectReg base addr width = .ok r) :
    width = 4 ∧ addr = base + regOffset r := by
  unfold selectReg at h
  split at h
  · cases h
  · split at h
    · split at h
      · rename_i hn hw _ _ hr
        cases h
        exact ⟨hw, by have := regOffset_of_regAt hr; omega⟩
      · cases h
    · cases h

/-- An access that selects no register does not answer a next state. -/
theorem selectReg_error {base addr width : Nat} {o : Outcome} (h : selectReg base addr width = .error o) :
    o = .fault .busError ∨ o = .refused .outsideWindow := by
  unfold selectReg at h
  repeat' split at h
  all_goals cases h
  all_goals simp

/-- Everything a CMD write can do (40_controller.md R100, R101). -/
theorem writeCmd_cases {w : Word} {s t : State} (h : writeCmd w s = .next t) :
    (s.status.busy = true ∧ t = refuseBusy s)
      ∨ (s.status.busy = false ∧ ∃ i, decode w = .ok i ∧ exec i (accept w s) = .next t)
      ∨ (s.status.busy = false ∧ (∃ e, decode w = .error e)
          ∧ t = failWith .illegal (accept w s)) := by
  unfold writeCmd at h
  split at h
  · exact .inl ⟨‹_›, by cases h; rfl⟩
  · rename_i hn
    have hb : s.status.busy = false := Bool.eq_false_iff.2 hn
    unfold runWord at h
    split at h
    · exact .inr (.inl ⟨hb, _, ‹_›, h⟩)
    · exact .inr (.inr ⟨hb, ⟨_, ‹_›⟩, by cases h; rfl⟩)

theorem writeReg_cases {r : Reg} {v : Word} {s t : State} (h : writeReg r v s = .next t) :
    (r = .cmd ∧ writeCmd v s = .next t)
      ∨ (r = .status ∧ t = { s with status := clearStatus v s.status })
      ∨ (r ≠ .cmd ∧ r ≠ .status ∧ t = s) := by
  cases r
  case cmd => exact .inl ⟨rfl, h⟩
  case status => cases h; exact .inr (.inl ⟨rfl, rfl⟩)
  all_goals cases h; exact .inr (.inr ⟨by decide, by decide, rfl⟩)

/-- Everything a host access that is performed can do. -/
theorem busAccess_cases {a : Access} {s t : State} (h : busAccess a s = .next t) :
    (∃ r, a = .read (s.params.base + regOffset r) 4
        ∧ t = { s with reply := some (readReg r s) })
      ∨ (∃ r v, a = .write (s.params.base + regOffset r) 4 v ∧ writeReg r v s = .next t) := by
  cases a with
  | read addr width =>
    simp only [busAccess] at h
    split at h
    · obtain ⟨rfl, rfl⟩ := selectReg_ok ‹_›
      exact .inl ⟨_, rfl, by cases h; rfl⟩
    · subst h
      rcases selectReg_error ‹_› with h | h <;> cases h
  | write addr width v =>
    simp only [busAccess] at h
    split at h
    · obtain ⟨rfl, rfl⟩ := selectReg_ok ‹_›
      exact .inr ⟨_, _, rfl, h⟩
    · subst h
      rcases selectReg_error ‹_› with h | h <;> cases h

/-- Everything a step can do: with no input pending, then one case per input. -/
theorem step_cases {s t : State} (h : step s = .next t) :
    (s.inputs = [] ∧ seqEnabled s = true ∧ t = seqTurn s)
      ∨ (s.inputs = [] ∧ seqEnabled s = false ∧ t = passTicks 1 s)
      ∨ ∃ x rest, s.inputs = x :: rest ∧ consume x { s with inputs := rest } = .next t := by
  unfold step at h
  split at h
  · unfold runAlone at h
    split at h
    · exact .inl ⟨‹_›, ‹_›, by cases h; rfl⟩
    · rename_i hn
      exact .inr (.inl ⟨‹_›, Bool.eq_false_iff.2 hn, by cases h; rfl⟩)
  · exact .inr (.inr ⟨_, _, ‹_›, h⟩)

theorem step_input {s : State} {x : Input} {rest : List Input} (h : s.inputs = x :: rest) :
    step s = consume x { s with inputs := rest } := by
  unfold step; rw [h]

/-- A host write to a register is `writeReg`. -/
theorem consume_wr (r : Reg) (v : Word) (s : State) :
    consume (wr s.params r v) s = writeReg r v s := by
  simp only [consume, wr, busAccess, selectReg_regOffset]

/-- A host read of a register returns it. -/
theorem consume_rd (r : Reg) (s : State) :
    consume (rd s.params r) s = .next { s with reply := some (readReg r s) } := by
  simp only [consume, rd, busAccess, selectReg_regOffset]

/-- A CMD write is a step of `writeCmd`. -/
theorem consume_cmdWrite (w : Word) (s : State) : consume (cmdWrite s.params w) s = writeCmd w s :=
  consume_wr .cmd w s

/-- A step at a CMD write that is accepted runs the word (40_controller.md R100). -/
theorem step_accepted {s : State} {w : Word} {rest : List Input}
    (h : s.inputs = cmdWrite s.params w :: rest) (hb : s.status.busy = false) :
    step s = runWord w (accept w { s with inputs := rest }) := by
  rw [step_input h]
  refine (consume_cmdWrite w { s with inputs := rest }).trans ?_
  unfold writeCmd
  rw [if_neg (by simp [hb])]

/-- Fetching: the step after `withFetchWord` performs that CMD write. -/
theorem step_withFetchWord (s : State) (nbits w : Nat) :
    step (s.withFetchWord nbits w) = writeCmd (tableWord nbits w) s := by
  unfold step State.withFetchWord
  exact consume_cmdWrite (tableWord nbits w) s

end Sys2Proof.Machine
end

