-- ==== Sys2Proof/Laws/Change.lean ====
section
/-! SUPPORT. Everything a step can do, in one flat list: a step that answers a next state is a reset event
or one `Change`. A proof about all steps is then one `cases`. -/

namespace Sys2Proof.Machine

/-- Why an accepted word fails (60_exceptions.md R234): the cause of each error that ends a command. No
accepted word fails with ARITH: that is a step of the sequencer. -/
def failsWith (e : CmdError) (w : Word) (s : State) : Prop :=
  match e with
  | .illegal => ∃ d, decode w = .error d
  | .range =>
    (∃ f d, decode w = .ok (.pulse f d) ∧ 1 ≤ f ∧ ¬(f ≤ 16000 ∧ d ≤ 100))
      ∨ ∃ a, decode w = .ok (.servo a) ∧ 180 < a
  | .precond =>
    s.status.mode = .pwm
      ∧ (decode w = .ok .read ∨ (∃ l, decode w = .ok (.drive l)) ∨ decode w = .ok .hiz)
  | .arith => False

/-- What a step other than a reset event can do: `s0` is the state before, `s` is `s0` with its oldest
input (if any) taken off. -/
inductive Change (s0 s : State) : State → Prop
  | ticks (n : Nat) : Change s0 s (passTicks n s)
  | edges (n : Nat) : s0.inputs = .edges n :: s.inputs → Change s0 s (passEdges n s)
  | line (l : Option Bool) : Change s0 s (setLine l s)
  | read (r : Reg) : Change s0 s { s with reply := some (readReg r s) }
  | clear (v : Word) : s0.inputs = wr s.params .status v :: s.inputs →
      Change s0 s { s with status := clearStatus v s.status }
  | nothing : Change s0 s s
  | refuse (w : Word) : s0.inputs = cmdWrite s.params w :: s.inputs → s.status.busy = true →
      Change s0 s (refuseBusy s)
  | exitOk (c : Code) (int frac digits : Nat) (o : Observed) (a : Averager) (cap : Capture) :
      c = .measured ∨ c = .tooLow → digits ≤ 5 → s.seq ≠ .idle →
      cap.enabled = s.capture.enabled → cap.buffer.length ≤ s.capture.buffer.length →
      Change s0 s (exitMeasure c int frac digits { s with obs := o, avg := a, capture := cap })
  | exitFail (o : Observed) (a : Averager) (cap : Capture) : s.seq ≠ .idle →
      cap.enabled = s.capture.enabled → cap.buffer.length ≤ s.capture.buffer.length →
      Change s0 s (exitMeasureFail { s with obs := o, avg := a, capture := cap })
  | rearm : s.seq = .gate1 → s.gate.expired = true → s.gate.count.toNat ≤ 0x3FFF →
      Change s0 s
        { arm .r1 s with
          obs := { s.obs with raw1 := s.gate.count }
          status := { s.status with autorange := true }
          seq := .gate2 }
  | startAverager : s.seq = .gate2 → s.gate.expired = true → 1 ≤ s.gate.count.toNat →
      s.gate.count.toNat ≤ 3999 →
      Change s0 s (startAverager s.gate.count { s with obs := { s.obs with raw2 := s.gate.count } })
  | baseline (t : Word) (b : List Word) : s.seq = .avgFirst → s.capture.buffer = t :: b →
      Change s0 s (avgFirstStep t { s with capture := { s.capture with buffer := b } })
  | interval (t : Word) (b : List Word) : s.seq = .avgLoop → s.capture.buffer = t :: b →
      s.avg.i + 1 ≠ s.avg.n →
      Change s0 s (accumulate t { s with capture := { s.capture with buffer := b } })
  | failed (w : Word) (e : CmdError) : s0.inputs = cmdWrite s.params w :: s.inputs →
      s.status.busy = false → failsWith e w s → Change s0 s (failWith e (accept w s))
  | disable (w : Word) (f d : Nat) : s0.inputs = cmdWrite s.params w :: s.inputs → s.status.busy = false →
      decode w = .ok (.pulse f d) → Change s0 s (disablePulse (accept w s))
  | enable (w : Word) (f d : Nat) : s0.inputs = cmdWrite s.params w :: s.inputs → s.status.busy = false →
      decode w = .ok (.pulse f d) → 1 ≤ f → f ≤ 16000 → d ≤ 100 →
      Change s0 s (enablePulse f d (accept w s))
  | servo (w : Word) (a : Nat) : s0.inputs = cmdWrite s.params w :: s.inputs → s.status.busy = false →
      decode w = .ok (.servo a) → a ≤ 180 →
      Change s0 s (enableServo (servoPrescaler s.params.servoRatio) a (accept w s))
  | conflict (w : Word) : s0.inputs = cmdWrite s.params w :: s.inputs → s.status.busy = false →
      decode w = .ok .measure →
      s.status.mode = .pwm → Change s0 s (complete .modeConflict (accept w s))
  | start (w : Word) : s0.inputs = cmdWrite s.params w :: s.inputs → s.status.busy = false →
      decode w = .ok .measure →
      s.status.mode = .io → Change s0 s (startMeasure (accept w s))
  | sample (w : Word) : s0.inputs = cmdWrite s.params w :: s.inputs → s.status.busy = false →
      decode w = .ok .read →
      s.status.mode = .io → Change s0 s (samplePin (accept w s))
  | drive (w : Word) (l : Bool) : s0.inputs = cmdWrite s.params w :: s.inputs → s.status.busy = false →
      decode w = .ok (.drive l) →
      s.status.mode = .io → Change s0 s (drivePin l (accept w s))
  | release (w : Word) : s0.inputs = cmdWrite s.params w :: s.inputs → s.status.busy = false →
      decode w = .ok .hiz →
      s.status.mode = .io → Change s0 s (releasePin (accept w s))

/-- An accepted command's change. -/
theorem change_of_exec {s0 s t : State} {w : Word} {i : Instr}
    (hi : s0.inputs = cmdWrite s.params w :: s.inputs) (hb : s.status.busy = false)
    (hd : decode w = .ok i) (h : exec i (accept w s) = .next t) : Change s0 s t := by
  cases i with
  | pulse f d =>
    rcases execPulse_cases h with ⟨_, rfl⟩ | ⟨h1, h2, h3, rfl⟩ | ⟨h1, h2, rfl⟩
    · exact .disable w f d hi hb hd
    · exact .enable w f d hi hb hd h1 h2 h3
    · exact .failed w .range hi hb (.inl ⟨f, d, hd, h1, h2⟩)
  | servo a =>
    rcases execServo_cases h with ⟨h1, rfl⟩ | ⟨h1, rfl⟩
    · exact .servo w a hi hb hd h1
    · exact .failed w .range hi hb (.inr ⟨a, hd, h1⟩)
  | measure =>
    rcases execMeasure_cases h with ⟨h1, rfl⟩ | ⟨h1, rfl⟩
    · exact .conflict w hi hb hd h1
    · exact .start w hi hb hd h1
  | read =>
    rcases inIoMode_cases h with ⟨h1, rfl⟩ | ⟨h1, rfl⟩
    · exact .sample w hi hb hd h1
    · exact .failed w .precond hi hb ⟨h1, .inl hd⟩
  | drive l =>
    rcases inIoMode_cases h with ⟨h1, rfl⟩ | ⟨h1, rfl⟩
    · exact .drive w l hi hb hd h1
    · exact .failed w .precond hi hb ⟨h1, .inr (.inl ⟨l, hd⟩)⟩
  | hiz =>
    rcases inIoMode_cases h with ⟨h1, rfl⟩ | ⟨h1, rfl⟩
    · exact .release w hi hb hd h1
    · exact .failed w .precond hi hb ⟨h1, .inr (.inr hd)⟩

/-- A first gate window's end. -/
theorem change_gate1 {s0 s : State} (h1 : s.seq = .gate1) (h2 : s.gate.expired = true) :
    Change s0 s (gate1Step s) := by
  rcases gate1Step_cases s with ⟨_, h⟩ | ⟨h3, h⟩ <;> rw [h]
  · rcases finishCount_cases (s.gate.count.toNat * 256)
      { s with obs := { s.obs with raw1 := s.gate.count } } with ⟨_, h'⟩ | ⟨_, h'⟩ <;> rw [h']
    · exact .exitOk _ _ _ 0 _ s.avg s.capture (.inl rfl) (by omega) (by simp [h1]) rfl (le_refl _)
    · exact .exitFail _ s.avg s.capture (by simp [h1]) rfl (le_refl _)
  · exact .rearm h1 h2 h3

/-- A second gate window's end. -/
theorem change_gate2 {s0 s : State} (h1 : s.seq = .gate2) (h2 : s.gate.expired = true) :
    Change s0 s (gate2Step s) := by
  rcases gate2Step_cases s with ⟨_, h⟩ | ⟨_, h⟩ | ⟨h3, h4, h⟩ <;> rw [h]
  · exact .exitOk _ _ _ 0 _ s.avg s.capture (.inr rfl) (by omega) (by simp [h1]) rfl (le_refl _)
  · rcases finishCount_cases s.gate.count.toNat
      { s with obs := { s.obs with raw2 := s.gate.count } } with ⟨_, h'⟩ | ⟨_, h'⟩ <;> rw [h']
    · exact .exitOk _ _ _ 0 _ s.avg s.capture (.inl rfl) (by omega) (by simp [h1]) rfl (le_refl _)
    · exact .exitFail _ s.avg s.capture (by simp [h1]) rfl (le_refl _)
  · exact .startAverager h1 h2 h3 h4

theorem decimalBand_le (p : Nat) : decimalBand p ≤ 5 := by
  rcases decimalBand_cases p with h | h | h | h | h <;> omega

/-- A capture taken in AVG_LOOP. -/
theorem change_avgLoop {s0 s : State} {t : Word} {b : List Word} (h1 : s.seq = .avgLoop)
    (h2 : s.capture.buffer = t :: b) :
    Change s0 s (avgLoopStep t { s with capture := { s.capture with buffer := b } }) := by
  rcases avgLoopStep_cases t { s with capture := { s.capture with buffer := b } } with
    ⟨_, h⟩ | ⟨h3, h⟩ <;> rw [h]
  · rcases takeMean_cases (accumulate t { s with capture := { s.capture with buffer := b } }) with
      ⟨_, h'⟩ | ⟨_, h'⟩ <;> rw [h']
    · exact .exitFail _ _ { s.capture with buffer := b } (by simp [h1]) rfl (by simp [h2])
    · exact .exitOk _ _ _ _ _ _ { s.capture with buffer := b } (.inl rfl) (decimalBand_le _)
        (by simp [h1]) rfl (by simp [h2])
  · exact .interval t b h1 h2 h3

/-- The sequencer's turn. -/
theorem change_seqTurn {s0 s : State} : Change s0 s (seqTurn s) := by
  rcases seqTurn_cases s with
    h | ⟨h1, h2, h⟩ | ⟨h1, h2, h⟩ | ⟨h1, t, b, h2, h⟩ | ⟨h1, t, b, h2, h⟩ <;> rw [h]
  · exact .nothing
  · exact change_gate1 h1 h2
  · exact change_gate2 h1 h2
  · exact .baseline t b h1 h2
  · exact change_avgLoop h1 h2

/-- Everything a step can do. -/
theorem step_change {s t : State} (h : step s = .next t) :
    (∃ rest, s.inputs = .reset :: rest ∧ t = resetEvent { s with inputs := rest })
      ∨ ((∀ rest, s.inputs ≠ .reset :: rest) ∧ ∃ rest, Change s { s with inputs := rest } t) := by
  rcases step_cases h with ⟨hn, _, rfl⟩ | ⟨hn, _, rfl⟩ | ⟨x, rest, hi, h⟩
  · exact .inr ⟨by simp [hn], s.inputs, change_seqTurn⟩
  · exact .inr ⟨by simp [hn], s.inputs, .ticks 1⟩
  · cases x with
    | reset => left; cases h; exact ⟨rest, hi, rfl⟩
    | sequencer => right; cases h; exact ⟨by simp [hi], rest, change_seqTurn⟩
    | ticks n => right; cases h; exact ⟨by simp [hi], rest, .ticks n⟩
    | edges n => right; cases h; exact ⟨by simp [hi], rest, .edges n hi⟩
    | level l => right; cases h; exact ⟨by simp [hi], rest, .line l⟩
    | bus a =>
      right
      refine ⟨by simp [hi], rest, ?_⟩
      rcases busAccess_cases h with ⟨r, rfl, rfl⟩ | ⟨r, v, rfl, h'⟩
      · exact .read r
      · rcases writeReg_cases h' with ⟨rfl, h'⟩ | ⟨rfl, rfl⟩ | ⟨_, _, rfl⟩
        · rcases writeCmd_cases h' with ⟨hb, rfl⟩ | ⟨hb, i, hd, he⟩ | ⟨hb, hd, rfl⟩
          · exact .refuse v hi hb
          · exact change_of_exec hi hb hd he
          · exact .failed v .illegal hi hb hd
        · exact .clear v hi
        · exact .nothing

end Sys2Proof.Machine
end

