-- ==== Sys2Proof/Laws/Flags.lean ====
section
/-! SUPPORT. The bits of the register words that hold fields (10_state.md R26, R33), and the byte lanes
of a word (20_memory.md R64). -/

namespace Sys2Proof.Machine

theorem getLsbD_place {n : Nat} (v : BitVec n) (lo b : Nat) :
    (place v lo).getLsbD b = (decide (b < 32) && !decide (b < lo) && v.getLsbD (b - lo)) := by
  simp only [place, BitVec.getLsbD_shiftLeft, BitVec.getLsbD_setWidth]
  by_cases h : b < 32
  · simp [h, show b - lo < 32 by omega]
  · simp [h]

theorem getLsbD_placeBit (v : Bool) (lo b : Nat) :
    (placeBit v lo).getLsbD b = (decide (b < 32) && decide (b = lo) && v) := by
  rw [placeBit, getLsbD_place]
  rcases Nat.lt_trichotomy b lo with h | h | h
  · simp [h, Nat.ne_of_lt h]
  · subst h; simp
  · have h1 : ¬b < lo := by omega
    have h2 : b - lo ≠ 0 := by omega
    have h3 : b ≠ lo := by omega
    simp [h3, h1, BitVec.getLsbD_ofBool, h2]

/-- Each bit of the STATUS word (R26): exactly one field, or none. -/
theorem statusWord_getLsbD (st : Status) (b : Nat) :
    (statusWord st).getLsbD b =
      (decide (b < 32) && ((decide (b = 0) && st.busy) || (decide (b = 1) && st.done)
        || (decide (b = 2) && modeBit st.mode) || (decide (b = 3) && st.autorange)
        || (!decide (b < 8) && (codeByte st.code).getLsbD (b - 8))
        || (decide (b = 16) && st.eIllegal) || (decide (b = 17) && st.eRange)
        || (decide (b = 18) && st.eBusy) || (decide (b = 19) && st.ePrecond)
        || (decide (b = 20) && st.eArith))) := by
  simp only [statusWord, BitVec.getLsbD_or, getLsbD_placeBit, getLsbD_place]
  by_cases h : b < 32 <;> simp [h]

end Sys2Proof.Machine

namespace Sys2Proof

/-- Laying a word out as byte lanes and joining them gives the word back (R64). -/
theorem wordOfLanes_laneBytes (w : Word) :
    wordOfLanes (w.extractLsb' 0 8) (w.extractLsb' 8 8) (w.extractLsb' 16 8)
      (w.extractLsb' 24 8) = w := by
  apply BitVec.eq_of_getLsbD_eq
  intro b hb
  simp only [wordOfLanes, BitVec.getLsbD_or, BitVec.getLsbD_shiftLeft, BitVec.getLsbD_setWidth,
    BitVec.getLsbD_extractLsb']
  interval_cases b <;> simp

/-- The decoder on the lanes of a word is the decoder on the word. -/
theorem decodeBytes_laneBytes (w : Word) : decodeBytes (laneBytes w) = decode w := by
  simp only [laneBytes, decodeBytes, wordOfLanes_laneBytes]

end Sys2Proof
end

