-- ==== Sys2Proof/Laws/PerInstr.lean ====
section
/-! SUPPORT. The family OpcodeField: the OP and RSV fields of every command's word (30_encoding.md R81,
R82, R84), one lemma per constructor of Instr. -/

namespace Sys2Proof.Laws.OpcodeField

/-- A well-formed command's word holds its opcode in bits 3:0 and 0 in the reserved bits 7:4. -/
def Statement (i : Instr) : Prop :=
  i.WellFormed → field (encode i) 0 4 = opcode i ∧ field (encode i) 4 4 = 0

theorem pulse (freq duty : Nat) : Statement (.pulse freq duty) := by
  intro _
  simp only [field, encode, opcode, BitVec.extractLsb'_toNat, BitVec.toNat_ofNat,
    Nat.shiftRight_eq_div_pow]
  omega

theorem servo (angle : Nat) : Statement (.servo angle) := by
  intro _
  simp only [field, encode, opcode, BitVec.extractLsb'_toNat, BitVec.toNat_ofNat,
    Nat.shiftRight_eq_div_pow]
  omega

theorem measure : Statement .measure := fun _ => by decide

theorem read : Statement .read := fun _ => by decide

theorem drive (level : Bool) : Statement (.drive level) := fun _ => by cases level <;> decide

theorem hiz : Statement .hiz := fun _ => by decide

end Sys2Proof.Laws.OpcodeField
end

