-- ==== Sys2Proof/Laws/Run.lean ====
section
/-! SUPPORT. Runs of many steps: what `runSteps` does, one step at a time, and that it composes. -/

namespace Sys2Proof.Machine

@[simp] theorem runSteps_zero (s : State) : runSteps 0 s = .next s := rfl

theorem runSteps_succ (k : Nat) (s : State) :
    runSteps (k + 1) s =
      match step s with
      | .next t => runSteps k t
      | .fault r => .fault r
      | .refused r => .refused r := by
  cases h : step s <;> simp only [runSteps, Host.Core.run, Sys2Proof.core, h]

/-- A run goes on from the next state of its first step. -/
theorem runSteps_of_step {k : Nat} {s t : State} (h : step s = .next t) :
    runSteps (k + 1) s = runSteps k t := by rw [runSteps_succ, h]

/-- A run of `k + 1` steps that answers a next state takes a first step. -/
theorem runSteps_cases {k : Nat} {s u : State} (h : runSteps (k + 1) s = .next u) :
    ∃ t, step s = .next t ∧ runSteps k t = .next u := by
  rw [runSteps_succ] at h
  cases hs : step s with
  | next t => exact ⟨t, rfl, by rw [hs] at h; exact h⟩
  | fault r => rw [hs] at h; cases h
  | refused r => rw [hs] at h; cases h

/-- Two runs, one after the other. -/
theorem runSteps_add {s t : State} {j : Nat} (k : Nat) (h : runSteps j s = .next t) :
    runSteps (j + k) s = runSteps k t := by
  induction j generalizing s with
  | zero => cases h; rw [Nat.zero_add]
  | succ j ih =>
    obtain ⟨u, hu, h⟩ := runSteps_cases h
    rw [Nat.add_right_comm, runSteps_of_step hu, ih h]

/-- A property that every step keeps holds at the end of a run that starts with it. -/
theorem runSteps_invariant {P : State → Prop} (hP : ∀ s t, P s → step s = .next t → P t)
    {k : Nat} {s t : State} (h : P s) (hr : runSteps k s = .next t) : P t := by
  induction k generalizing s with
  | zero => cases hr; exact h
  | succ k ih =>
    obtain ⟨u, hu, hr⟩ := runSteps_cases hr
    exact ih (hP s u h hu) hr

end Sys2Proof.Machine
end

