-- ==== Sys2Proof/Tests/Slice0.lean ====
section
/-! SUPPORT. Tests: ill-formed commands refused, words written out from 30_encoding.md decoded, one step
of each command and phase against 95_test_vectors.md, and a witness for the hypotheses of each statement
of Certificates/Slice0/Obligations.lean that has some. -/

namespace Sys2Proof.Tests

open Sys2Proof Sys2Proof.Machine

/-- The state of a next outcome; the reset state for a stop. -/
def nextOf : Outcome → State
  | .next t => t
  | .fault _ => State.reset
  | .refused _ => State.reset

/-- Whether an outcome is a next state. -/
def isNext : Outcome → Bool
  | .next _ => true
  | .fault _ => false
  | .refused _ => false

/-- The reset state with these inputs to come. -/
def withInputs (xs : List Input) : State := { State.reset with inputs := xs }

/-- The parameters of the tests: those of the reset state. -/
def host : Params := State.reset.params

/-- Other parameters: P_SERVO_RATIO = 256, the window at 0x1000, the pin on line 3. -/
def elsewhere : Params := { host with servoRatio := .r256, base := 0x1000, pinSel := 3 }

/-- The state after the host wrote this word to CMD of a state. -/
def afterWord (w : Word) (s : State) : State := nextOf (step { s with inputs := [cmdWrite s.params w] })

/-- After PULSE 1000, 50 from reset. -/
def pulsing : State := afterWord 0x03E83201 State.reset

/-- After SERVO 90 from reset. -/
def steering : State := afterWord 0x005A0002 State.reset

/-- After MEASURE from reset. -/
def measuring : State := afterWord 0x00000003 State.reset

/-- After DRIVE 1 from reset. -/
def driving : State := afterWord 0x00000105 State.reset

/-- The phase GATE1, its window over with this count, the sequencer to move. -/
def gate1At (count : Word) : State :=
  { measuring with
    gate := { measuring.gate with count := count, refTimer := .running 16000000, expired := true }
    inputs := [.sequencer] }

/-- The phase GATE2, its window over with this count, the sequencer to move. -/
def gate2At (count : Word) : State :=
  { gate1At count with
    seq := .gate2
    status := { measuring.status with autorange := true }
    gate := { (gate1At count).gate with ratio := .r1 } }

/-- The averager with N intervals to take, `i` of them taken, this baseline and sum, these captures
waiting, the sequencer to move. -/
def averagingAt (seq : Phase) (n i prev : Word) (sum : BitVec 64) (b : List Word) : State :=
  { measuring with
    seq := seq
    status := { measuring.status with autorange := true }
    gate := { measuring.gate with refTimer := .stopped }
    capture := { enabled := true, timestamp := 0, buffer := b }
    avg := { n := n, i := i, prev := prev, sum := sum }
    inputs := [.sequencer] }

/-! Well-formedness: an operand that does not fit its field (30_encoding.md R92) -/

theorem test_wf_refuses_pulse_freq_65536 : (Instr.pulse 65536 0).wf = false := by decide
theorem test_wf_refuses_pulse_duty_256 : (Instr.pulse 1 256).wf = false := by decide
theorem test_wf_refuses_servo_angle_65536 : (Instr.servo 65536).wf = false := by decide
theorem test_assembler_refuses_duty_256 : assemble (.pulse 1 256) = none := by decide
theorem test_assembler_takes_values_the_command_refuses :
    assemble (.pulse 16001 50) = some 0x3E813201 ∧ assemble (.servo 200) = some 0x00C80002 := by
  decide

/-! Decoding: words of 95_test_vectors.md 2.1, 2.2 and 2.3 -/

theorem test_decode_pulse :
    decode 0x03E83201 = .ok (.pulse 1000 50) ∧ decode 0xFFFF0001 = .ok (.pulse 65535 0) := by
  decide
theorem test_decode_servo :
    decode 0x005A0002 = .ok (.servo 90) ∧ decode 0x00B40002 = .ok (.servo 180) := by decide
theorem test_decode_measure : decode 0x00000003 = .ok .measure := by decide
theorem test_decode_read : decode 0x00000004 = .ok .read := by decide
theorem test_decode_drive :
    decode 0x00000105 = .ok (.drive true) ∧ decode 0x00000005 = .ok (.drive false) := by decide
theorem test_decode_hiz : decode 0x00000006 = .ok .hiz := by decide
theorem test_decode_reserved_opcodes :
    decode 0x00000000 = .error .reservedOpcode ∧ decode 0x00000007 = .error .reservedOpcode
    ∧ decode 0x0000000F = .error .reservedOpcode := by decide
theorem test_decode_reserved_field :
    decode 0x00000011 = .error .reservedField ∧ decode 0xFFFFFFFF = .error .reservedField := by
  decide
theorem test_decode_operand_fields :
    decode 0x005A0102 = .error .operandField ∧ decode 0x00000103 = .error .operandField
    ∧ decode 0x80000003 = .error .operandField ∧ decode 0x00000205 = .error .operandField
    ∧ decode 0x00010005 = .error .operandField := by decide
/-- 60_exceptions.md R234: a SERVO word with ARG_B ≠ 0 and ANGLE = 200 is ILLEGAL, not RANGE. -/
theorem test_decoding_comes_before_the_range : decode 0x00C80102 = .error .operandField := by decide
/-- 20_memory.md R64: lane 0 carries bits 7:0. -/
theorem test_decode_bytes : decodeBytes [0x01, 0x32, 0xE8, 0x03] = .ok (.pulse 1000 50) := by decide
theorem test_decode_bytes_needs_a_word : decodeBytes [0x03] = .error .notOneWord := by decide
theorem test_table_word :
    decodeTableWord 32 0x03E83201 = some (.pulse 1000 50)
    ∧ decodeTableWord 8 0xFFFFFF03 = some .measure := by decide
/-- The words of the pseudo-commands (30_encoding.md R94). -/
theorem test_pseudo_commands :
    encode pwmOff = 0x00000001 ∧ encode driveHigh = 0x00000105 ∧ encode driveLow = 0x00000005 := by
  decide

/-! PULSE (95 Part 1 examples 3 and 8, 2.2) -/

theorem test_pulse_1000_50 :
    pulsing.gen.period = 0x0F ∧ pulsing.gen.compare = 0x07 ∧ genCfgWord pulsing.gen = 0x1100
    ∧ pinWord pulsing.pin = 0x02 ∧ pcfgWord pulsing.pcfg = 0x003203E8
    ∧ statusWord pulsing.status = 0x00000206 := by decide
theorem test_pulse_out_of_range_leaves_the_generator :
    statusWord (afterWord 0x3E813201 pulsing).status = 0x00028106
    ∧ (afterWord 0x3E813201 pulsing).gen = pulsing.gen
    ∧ pcfgWord (afterWord 0x3E813201 pulsing).pcfg = 0x003203E8 := by decide
theorem test_pulse_band_1_to_8 :
    (afterWord 0x00641901 State.reset).gen.period = 19
    ∧ (afterWord 0x00641901 State.reset).gen.compare = 4
    ∧ genCfgWord (afterWord 0x00641901 State.reset).gen = 0x1101 := by decide
theorem test_pulse_zero_disables :
    genCfgWord (afterWord 0x00004D01 pulsing).gen = 0
    ∧ pinWord (afterWord 0x00004D01 pulsing).pin = 0
    ∧ pcfgWord (afterWord 0x00004D01 pulsing).pcfg = 0x00320000
    ∧ statusWord (afterWord 0x00004D01 pulsing).status = 0x00000102 := by decide

/-! SERVO (95 2.3) -/

theorem test_servo_90 :
    steering.gen.period = 0x4E2 ∧ steering.gen.compare = 94 ∧ genCfgWord steering.gen = 0x2102
    ∧ pcfgWord steering.pcfg = 0x5A000000 ∧ statusWord steering.status = 0x00000306
    ∧ pinWord steering.pin = 0x02 := by decide
theorem test_servo_181_is_out_of_range :
    statusWord (afterWord 0x00B50002 State.reset).status = 0x00028102 := by decide
/-- With P_SERVO_RATIO = 256 the same word gives GEN_CFG = 0x2103 (R136). -/
theorem test_servo_alternative_ratio :
    genCfgWord (afterWord 0x005A0002 { State.reset with params := elsewhere }).gen = 0x2103
    ∧ (afterWord 0x005A0002 { State.reset with params := elsewhere }).gen.compare = 94 := by decide

/-! MEASURE (95 Part 1 example 4, 2.4, 2.5, 2.6; program P5) -/

theorem test_measure_in_pwm_mode :
    statusWord (afterWord 0x00000003 steering).status = 0x00000506
    ∧ (afterWord 0x00000003 steering).gen = steering.gen
    ∧ pcfgWord (afterWord 0x00000003 steering).pcfg = 0x5A000000 := by decide
theorem test_measure_starts :
    measuring.seq = .gate1 ∧ pinWord measuring.pin = 0x03 ∧ statusWord measuring.status = 0x00000001
    := by decide
theorem test_gate_counts_every_256th_edge :
    (passEdges 4194559 measuring).gate.count = 0x4000
    ∧ (passEdges 4194303 measuring).gate.count = 0x3FFF := by decide
theorem test_gate1_threshold :
    statusWord (nextOf (step (gate1At 0x4000))).status = 0x00000602
    ∧ (nextOf (step (gate1At 0x4000))).result.int = 4194304
    ∧ (nextOf (step (gate1At 0x3FFF))).seq = .gate2 := by decide
theorem test_gate1_product_too_large :
    statusWord (nextOf (step (gate1At 0x1000000))).status = 0x00108302
    ∧ (nextOf (step (gate1At 0x1000000))).result = State.reset.result := by decide
theorem test_gate2_absent_and_coarse :
    statusWord (nextOf (step (gate2At 0))).status = 0x0000040A
    ∧ statusWord (nextOf (step (gate2At 4000))).status = 0x0000060A
    ∧ (nextOf (step (gate2At 4000))).result.int = 4000 := by decide
theorem test_gate2_starts_the_averager :
    (nextOf (step (gate2At 3999))).seq = .avgFirst
    ∧ (nextOf (step (gate2At 3999))).obs.avgN = 3999 := by decide
/-- 95 2.6: N = 2, timestamps 0xFFFFFF00, 0x00000100, 0x00000300. -/
theorem test_averager_wraps_and_takes_the_mean :
    (nextOf (step (averagingAt .avgFirst 2 7 7 7 [0xFFFFFF00]))).avg
      = { n := 2, i := 0, prev := 0xFFFFFF00, sum := 0 }
    ∧ (nextOf (step (averagingAt .avgLoop 2 0 0xFFFFFF00 0 [0x00000100]))).avg.sum = 0x200
    ∧ (nextOf (step (averagingAt .avgLoop 2 1 0x00000100 0x200 [0x00000300]))).obs.mean = 512
    ∧ (nextOf (step (averagingAt .avgLoop 2 1 0x00000100 0x200 [0x00000300]))).result
      = { int := 31250, frac := 0, digits := 1 } := by decide
/-- 95 2.6: N = 3, timestamps 0, 1, 2, 2: the mean 2 div 3 is 0. -/
theorem test_averager_mean_zero :
    statusWord (nextOf (step (averagingAt .avgLoop 3 2 2 2 [2]))).status = 0x0010830A := by decide
/-- 95 2.7. -/
theorem test_decimal_values :
    (decimalInt 50000, decimalFrac 50000, decimalBand 50000) = (320, 0, 3)
    ∧ (decimalInt 12649, decimalFrac 12649, decimalBand 12649) = (1264, 9, 1)
    ∧ (decimalInt 400001, decimalFrac 400001, decimalBand 400001) = (39, 99990, 5)
    ∧ (decimalInt 4294967295, decimalFrac 4294967295, decimalBand 4294967295) = (0, 372, 5) := by
  decide
/-- 42_measure.md R185: the examples 39.99990 and 0.00372. -/
theorem test_rendering :
    render 39 99990 5 = ['3', '9', '.', '9', '9', '9', '9', '0']
    ∧ render 0 372 5 = ['0', '.', '0', '0', '3', '7', '2'] := by decide

/-! READ, DRIVE, HIZ (95 2.8) -/

theorem test_drive_high_and_low :
    pinWord driving.pin = 0x11 ∧ statusWord driving.status = 0x00000802
    ∧ pinWord (afterWord 0x00000005 State.reset).pin = 0x01
    ∧ statusWord (afterWord 0x00000005 State.reset).status = 0x00000902 := by decide
theorem test_drive_in_pwm_mode :
    pinWord (afterWord 0x00000105 steering).pin = 0x02
    ∧ statusWord (afterWord 0x00000105 steering).status = 0x00088206 := by decide
theorem test_hiz_keeps_the_latch :
    pinWord (afterWord 0x00000006 driving).pin = 0x10
    ∧ statusWord (afterWord 0x00000006 driving).status = 0x00000702 := by decide
theorem test_read_level_1 :
    (afterWord 0x00000004 { driving with line := some true }).result.int = 1
    ∧ statusWord (afterWord 0x00000004 { driving with line := some true }).status = 0x00000A02
    ∧ pinWord (afterWord 0x00000004 { driving with line := some true }).pin = 0x11 := by decide
theorem test_read_in_pwm_mode :
    statusWord (afterWord 0x00000004 pulsing).status = 0x00088206 := by decide

/-! Controller, window and reset (95 2.1, 2.9) -/

theorem test_illegal_word :
    statusWord (afterWord 0x00000017 State.reset).status = 0x00018002
    ∧ (afterWord 0x00000017 State.reset).cmd = 0x00000017 := by decide
theorem test_busy_write_is_refused :
    statusWord (afterWord 0x00000004 measuring).status = 0x00040001
    ∧ (afterWord 0x00000004 measuring).cmd = 0x00000003
    ∧ (afterWord 0x00000004 measuring).seq = .gate1 := by decide
/-- From STATUS = 0x00028106. -/
theorem test_status_write_clears_what_it_names :
    statusWord (clearStatus 0x00000002 (afterWord 0x3E813201 pulsing).status) = 0x00028104
    ∧ statusWord (clearStatus 0x00020000 (afterWord 0x3E813201 pulsing).status) = 0x00008106 := by
  decide
theorem test_read_returns_the_register :
    (nextOf (step { pulsing with inputs := [rd host .genPeriod] })).reply = some 0x0F
    ∧ (nextOf (step { pulsing with inputs := [.bus (.read 0x18 4)] })).reply = some 0x1100 := by
  decide
theorem test_write_to_another_register_is_ignored :
    (nextOf (step { pulsing with inputs := [wr host .pin 0x11] })).pin = pulsing.pin := by decide
theorem test_narrow_and_misaligned_accesses :
    step (withInputs [.bus (.read 0x04 2)]) = .fault .busError
    ∧ step (withInputs [.bus (.write 0x02 4 3)]) = .fault .busError := ⟨rfl, rfl⟩
theorem test_access_past_the_window :
    step (withInputs [.bus (.read 0x40 4)]) = .refused .outsideWindow := rfl
/-- 20_memory.md R60: the registers stand at P_BASE + offset. -/
theorem test_window_at_its_base :
    (nextOf (step { State.reset with params := elsewhere, inputs := [.bus (.write 0x1000 4 0x105)] })).pin
      = driving.pin
    ∧ step { State.reset with params := elsewhere, inputs := [.bus (.write 0x0 4 0x105)] }
      = .refused .outsideWindow := ⟨by decide, rfl⟩
/-- 40_controller.md R113: the pin is the line P_PIN_SEL selects. -/
theorem test_pin_is_the_selected_line :
    lineDrive 3 { driving with params := elsewhere } = .drives true
    ∧ lineDrive 0 { driving with params := elsewhere } = .highZ := by decide
/-- 41_pulse_generator.md R139: PULSE 1000, 50 is 16,000,000 / 16 Hz = 1 MHz. -/
theorem test_physical_reading : (physicalReading host pulsing.gen).1 = (16000000, 1 * 16) := by decide
theorem test_reset_abandons_a_measure :
    (nextOf (step { measuring with inputs := [.reset] })) = State.reset := by decide
theorem test_first_instruction_after_reset :
    (nextOf (step (State.reset.withFetchWord 32 0x00000105))).pin = driving.pin := by decide

/-! Witnesses: the hypotheses of the statements can be met -/

theorem witness_EncodedCommandDecodes :
    (Instr.pulse 65535 255).WellFormed ∧ (Instr.servo 65535).WellFormed ∧ Instr.measure.WellFormed
    ∧ (Instr.drive true).WellFormed := by decide

theorem witness_DecodedWordIsItsEncoding :
    decode 0xFFFFFF01 = .ok (.pulse 65535 255) ∧ decode 0xFFFF0002 = .ok (.servo 65535) := by decide

theorem witness_DecoderFollowsMatchTable :
    (0xFFFFFF01 : Word) &&& 0x000000FF = 0x00000001 ∧ (0xFFFF0002 : Word) &&& 0x0000FFFF = 0x00000002
    ∧ (0x00000105 : Word) &&& 0xFFFFFEFF = 0x00000005
    ∧ (∀ i : Instr, (0x00000007 : Word) &&& rowMask i ≠ rowMatch i) :=
  ⟨by decide, by decide, by decide, fun i => by cases i <;> (simp only [rowMask, rowMatch]; decide)⟩

/-- One word at the edge of each clause of the hypothesis. -/
theorem witness_IllegalWordCompletesAtOnce :
    (withInputs [cmdWrite host 0x00000000]).acceptsNext 0x00000000 []
    ∧ (0x00000000 : Word).extractLsb' 0 4 = 0 ∧ 7 ≤ ((0x00000007 : Word).extractLsb' 0 4).toNat
    ∧ 7 ≤ ((0xFFFFFF0F : Word).extractLsb' 0 4).toNat ∧ (0x00000011 : Word).extractLsb' 4 4 ≠ 0
    ∧ ((0x005A0102 : Word).extractLsb' 0 4 ∈ [2, 3, 4, 6]
      ∧ (0x005A0102 : Word).extractLsb' 8 8 ≠ 0)
    ∧ ((0x00010005 : Word).extractLsb' 0 4 ∈ [3, 4, 5, 6]
      ∧ (0x00010005 : Word).extractLsb' 16 16 ≠ 0)
    ∧ ((0x00000205 : Word).extractLsb' 0 4 = 5 ∧ (0x00000205 : Word).extractLsb' 9 7 ≠ 0) := by
  decide

theorem witness_StepRunsDecodedCommand :
    (withInputs [cmdWrite host 0x00000003]).acceptsNext 0x00000003 [] ∧ decode 0x00000003 = .ok .measure
    ∧ ∃ e, decode 0x00000007 = .error e := ⟨by decide, by decide, .reservedOpcode, by decide⟩

theorem witness_HostCannotDisturbRunningCommand :
    measuring.status.busy = true
    ∧ { measuring with inputs := [cmdWrite host 4] }.inputs = cmdWrite host 4 :: []
    ∧ ∃ t, step { measuring with inputs := [wr host .status 2] } = .next t := ⟨by decide, rfl, _, rfl⟩

theorem witness_OnlyMeasureOutlastsItsStep :
    (withInputs [cmdWrite host 3]).acceptsNext 3 [] ∧ decode 3 = .ok .measure
    ∧ (withInputs [cmdWrite host 3]).status.mode = .io
    ∧ ¬(decode 6 = .ok .measure ∧ (withInputs [cmdWrite host 6]).status.mode = .io) := by decide

theorem witness_DigitalIoLeavesTimingAlone :
    Instr.hiz = .read ∨ (∃ l, Instr.hiz = .drive l) ∨ Instr.hiz = .hiz := .inr (.inr rfl)

/-- Both ends of the four bands. -/
theorem witness_PrescalerBands :
    (1 ≤ 1 ∧ 3 ≤ 3) ∧ (4 ≤ 4 ∧ 30 ≤ 30) ∧ (31 ≤ 31 ∧ 244 ≤ 244) ∧ 245 ≤ 245 := by decide

theorem witness_PeriodAndDutyFitTheirRegisters :
    1 ≤ 16000 ∧ 16000 ≤ 16000 ∧ 100 ≤ 100 ∧ 16000 < 16001 := by decide

theorem witness_PulseEnablesGenerator :
    1 ≤ 1 ∧ 16000 ≤ 16000 ∧ 100 ≤ 100 ∧ bandDivisor 16001 / 16001 = 0 ∧ bandDivisor 16000 / 16000 = 1
    ∧ 8001 ≤ 16000 ∧ 5334 ≤ 8000 := by decide

theorem witness_PulseZeroDisablesGenerator :
    driving.R46 ∧ driving.seq = .idle ∧ driving.status.mode = .io := by decide

theorem witness_ServoEnablesGenerator : 180 ≤ 180 ∧ 180 < 181 := by decide

theorem witness_ServoCompareValue : 180 ≤ 180 ∧ 179 ≤ 180 := by decide

theorem witness_CommandedWaveform :
    (1 ≤ 16000 ∧ 16000 ≤ 16000 ∧ 100 ≤ 100) ∧ 180 ≤ 180
    ∧ isNext (exec (.pulse 16000 100) steering) = true ∧ isNext (exec (.servo 180) pulsing) = true
    := by decide

theorem witness_GeneratorFrames :
    Generator.neutral.en = false ∧ pulsing.gen.en = true
    ∧ pulsing.gen.gp + 1 = ratioTicks pulsing.gen.ratio
    ∧ steering.gen.en = true ∧ steering.gen.gp + 1 ≠ ratioTicks steering.gen.ratio
    ∧ steering.gen.gc = 0 ∧ steering.gen.gp = 0 := by decide

theorem witness_DigitalIoNeedsIoMode :
    steering.status.mode = .pwm ∧ measuring.status.busy = true
    ∧ { measuring with inputs := [cmdWrite host (encode .hiz)] }.inputs = cmdWrite host (encode .hiz) :: [] :=
  ⟨by decide, by decide, rfl⟩

theorem witness_ReadReturnsPinLevel :
    { State.reset with line := some true }.status.mode = .io
    ∧ { State.reset with line := some true }.line = some true ∧ steering.status.mode = .pwm := by
  decide

theorem witness_DriveSetsLatchAndOutput :
    State.reset.status.mode = .io ∧ steering.status.mode = .pwm := by decide

theorem witness_HizReleasesPin :
    driving.status.mode = .io ∧ pulsing.status.mode = .pwm := by decide

theorem witness_PinDriverFollowsFunction :
    State.reset.pin.func = .digitalIn ∧ measuring.pin.func = .captureIn
    ∧ driving.pin.func = .digitalOut ∧ pulsing.pin.func = .pwmOut := by decide

theorem witness_MeasureInPwmModeConflicts : steering.status.mode = .pwm := by decide

theorem witness_MeasureInIoModeStarts : driving.status.mode = .io := by decide

/-- 511 edges, the last of them in the window's last but one tick. -/
theorem witness_GateCountsEdgesOfItsWindow :
    measuring.gate =
      { count := 0, prescaler := 0, ratio := .r256, refTimer := .running 0, expired := false }
    ∧ { measuring with inputs := [.edges 511, .ticks 15999999, .ticks 1] }.inputs
      = [.edges 511, .ticks 15999999] ++ [.ticks 1]
    ∧ (∀ x ∈ [Input.edges 511, .ticks 15999999], timeOrEdges x = true)
    ∧ ticksOf [.edges 511, .ticks 15999999] < host.gateTicks
    ∧ host.gateTicks ≤ ticksOf [.edges 511, .ticks 15999999] + 1 := by decide

theorem witness_FirstGatePassDecides :
    (gate1At 0).inputs = .sequencer :: [] ∧ (gate1At 0).seq = .gate1
    ∧ { gate1At 0 with gate := measuring.gate }.gate.expired = false
    ∧ (gate1At 0x3FFF).gate.expired = true ∧ (gate1At 0x3FFF).gate.count.toNat ≤ 0x3FFF
    ∧ 0x3FFF < (gate1At 0x4000).gate.count.toNat
    ∧ (gate1At 0xFFFFFF).gate.count.toNat * 256 < 2 ^ 32
    ∧ 2 ^ 32 ≤ (gate1At 0x1000000).gate.count.toNat * 256 := by decide

theorem witness_SecondGatePassDecides :
    (gate2At 0).inputs = .sequencer :: [] ∧ (gate2At 0).seq = .gate2
    ∧ { gate2At 0 with gate := measuring.gate }.gate.expired = false
    ∧ (gate2At 0).gate.expired = true ∧ (gate2At 0).gate.count = 0
    ∧ 3999 < (gate2At 4000).gate.count.toNat ∧ 1 ≤ (gate2At 1).gate.count.toNat
    ∧ (gate2At 3999).gate.count.toNat ≤ 3999 := by decide

theorem witness_FirstCaptureIsBaseline :
    (averagingAt .avgFirst 2 0 0 0 [5]).inputs = .sequencer :: []
    ∧ (averagingAt .avgFirst 2 0 0 0 [5]).seq = .avgFirst
    ∧ (averagingAt .avgFirst 2 0 0 0 [5]).capture.buffer = 5 :: [] := by decide

/-- The last interval but one, the last with a mean of 0, and the last with a mean of 1. -/
theorem witness_EachCaptureAddsItsInterval :
    (averagingAt .avgLoop 3 1 5 1 [6]).seq = .avgLoop
    ∧ (averagingAt .avgLoop 3 1 5 1 [6]).capture.buffer = 6 :: []
    ∧ (averagingAt .avgLoop 3 1 5 1 [6]).avg.i + 1 ≠ (averagingAt .avgLoop 3 1 5 1 [6]).avg.n
    ∧ (averagingAt .avgLoop 3 2 5 1 [6]).avg.i + 1 = (averagingAt .avgLoop 3 2 5 1 [6]).avg.n
    ∧ ((averagingAt .avgLoop 3 2 5 1 [6]).avg.sum
        + BitVec.ofNat 64 ((6 + 2 ^ 32 - 5) % 2 ^ 32)).toNat / 3 = 0
    ∧ ((averagingAt .avgLoop 3 2 5 2 [6]).avg.sum
        + BitVec.ofNat 64 ((6 + 2 ^ 32 - 5) % 2 ^ 32)).toNat / 3 = 1 := by decide

theorem witness_AveragerGivesExactMean :
    (averagingAt .avgFirst 2 0 0 0 []).seq = .avgFirst
    ∧ (averagingAt .avgFirst 2 0 0 0 []).capture.enabled = true
    ∧ (averagingAt .avgFirst 2 0 0 0 []).capture.buffer = []
    ∧ (averagingAt .avgFirst 2 0 0 0 []).avg.n.toNat = [4294967295, 0].length
    ∧ (∀ d ∈ [4294967295, 0], d < 2 ^ 32)
    ∧ { averagingAt .avgFirst 2 0 0 0 [] with inputs := signal [4294967295, 0] }.inputs
      = signal [4294967295, 0] ++ []
    ∧ 1 ≤ [4294967295, 0].sum / [4294967295, 0].length
    ∧ [1, 0].sum / [1, 0].length = 0 := by decide

theorem witness_EqualIntervalsAverageToThemselves :
    (averagingAt .avgFirst 3999 0 0 0 []).avg.n.toNat = 3999
    ∧ (averagingAt .avgFirst 1 0 0 0 []).avg.n.toNat = 1
    ∧ { averagingAt .avgFirst 1 0 0 0 [] with
        inputs := signal (List.replicate 1 4294967295) }.inputs
      = signal (List.replicate 1 4294967295) ++ [] := by decide

theorem witness_DecimalValueIsTruncatedQuotient : 1 ≤ 1 := by decide

theorem witness_EveryMeasureExitIsNeutral :
    (gate1At 0x4000).Exclusive ∧ (gate1At 0x4000).seq ≠ .idle
    ∧ (∀ rest, (gate1At 0x4000).inputs ≠ .reset :: rest)
    ∧ ∃ t, step (gate1At 0x4000) = .next t ∧ t.seq = .idle :=
  ⟨by decide, by decide, fun rest => by rw [show (gate1At 0x4000).inputs = [.sequencer] from rfl]; simp,
    _, rfl, by decide⟩

/-- One pair of counts at the edge of each clause. -/
theorem witness_CountedSignalIsReported :
    (withInputs [cmdWrite host (encode .measure), .edges 4194304, .ticks host.gateTicks, .sequencer,
      .edges 0, .ticks host.gateTicks, .sequencer]).status.busy = false
    ∧ (withInputs [cmdWrite host (encode .measure), .edges 4194304, .ticks host.gateTicks, .sequencer,
      .edges 0, .ticks host.gateTicks, .sequencer]).status.mode = .io
    ∧ 0x3FFF < 4194304 / 256 % 2 ^ 32 ∧ 4294967295 / 256 % 2 ^ 32 * 256 < 2 ^ 32
    ∧ 2 ^ 32 ≤ 4294967296 / 256 % 2 ^ 32 * 256 ∧ 4194303 / 256 % 2 ^ 32 ≤ 0x3FFF
    ∧ 4294967296 % 2 ^ 32 = 0 ∧ 3999 < 4000 % 2 ^ 32 ∧ 3999 % 2 ^ 32 ≤ 3999 := by decide

theorem witness_AveragerWithoutEdgesHangs :
    averagerPhase (averagingAt .avgLoop 3 1 5 1 []).seq = true
    ∧ (averagingAt .avgLoop 3 1 5 1 []).status.busy = true
    ∧ (averagingAt .avgLoop 3 1 5 1 []).capture.buffer = []
    ∧ (∀ x ∈ [Input.bus (.read 4 4), .ticks 5, .edges 0, .sequencer], bringsNoEdge host x = true) := by
  decide

theorem witness_GateWindowAlwaysEnds :
    gatePhase measuring.seq = true ∧ measuring.gate.refTimer = .running 0
    ∧ measuring.gate.expired = false ∧ 15999999 < host.gateTicks ∧ measuring.inputs = [] := by
  decide

theorem witness_EveryTimestampCanBeDrawn :
    (averagingAt .avgFirst 2 0 0 0 []).capture.enabled = true
    ∧ (averagingAt .avgFirst 2 0 0 0 []).capture.buffer = [] := by decide

theorem witness_StaleCapturesChangeNothing :
    gatePhase (gate2At 3999).seq = true
    ∧ ∃ t, step (gate2At 3999) = .next t ∧ t.seq = .avgFirst := ⟨by decide, _, rfl, by decide⟩

theorem witness_RenderingPadsTheFraction : 1 ≤ 5 ∧ 99999 < 10 ^ 5 ∧ 0 < 10 ^ 1 := by decide

theorem witness_StatusLayoutAndClear :
    { pulsing with inputs := [wr host .status 0xFFFFFFFF] }.inputs = wr host .status 0xFFFFFFFF :: [] := rfl

theorem witness_ReadsAndOtherWritesChangeNothing :
    { pulsing with inputs := [rd host .pin] }.inputs = rd host .pin :: []
    ∧ { pulsing with inputs := [wr host .pin 0x11] }.inputs = wr host .pin 0x11 :: []
    ∧ Reg.pin ≠ .cmd ∧ Reg.pin ≠ .status := by decide

/-- The last byte of the window, and a half word at its start. -/
theorem witness_MisalignedOrNarrowAccessIsBusError :
    (63 < 64 ∧ (4 ≠ 4 ∨ 63 % 4 ≠ 0)) ∧ (0 < 64 ∧ (2 ≠ 4 ∨ 0 % 4 ≠ 0))
    ∧ (withInputs [.bus (.read 63 4)]).inputs = .bus (.read (host.base + 63) 4) :: []
    ∧ { State.reset with params := elsewhere, inputs := [.bus (.write 0x1000 8 1)] }.inputs
      = .bus (.write (elsewhere.base + 0) 8 1) :: [] := by decide

/-- E_RANGE falling by a host write; E_BUSY, E_ILLEGAL, E_RANGE, E_PRECOND and E_ARITH rising. -/
theorem witness_StickyBitsStayUntilCleared :
    (∃ t, step { afterWord 0x3E813201 pulsing with inputs := [wr host .status 0x00020000] } = .next t
      ∧ (statusWord (afterWord 0x3E813201 pulsing).status).getLsbD 17 = true
      ∧ (statusWord t.status).getLsbD 17 = false)
    ∧ (∃ t, step { measuring with inputs := [cmdWrite host 4] } = .next t
      ∧ (statusWord measuring.status).getLsbD 18 = false
      ∧ (statusWord t.status).getLsbD 18 = true)
    ∧ (∃ t, step (withInputs [cmdWrite host 7]) = .next t
      ∧ (statusWord (withInputs [cmdWrite host 7]).status).getLsbD 16 = false
      ∧ (statusWord t.status).getLsbD 16 = true)
    ∧ (∃ t, step (withInputs [cmdWrite host 0x00B50002]) = .next t
      ∧ (statusWord t.status).getLsbD 17 = true)
    ∧ (∃ t, step { steering with inputs := [cmdWrite host 4] } = .next t
      ∧ (statusWord steering.status).getLsbD 19 = false
      ∧ (statusWord t.status).getLsbD 19 = true)
    ∧ ∃ t, step (gate1At 0x1000000) = .next t
      ∧ (statusWord (gate1At 0x1000000).status).getLsbD 20 = false
      ∧ (statusWord t.status).getLsbD 20 = true :=
  ⟨⟨_, rfl, by decide, by decide⟩, ⟨_, rfl, by decide, by decide⟩, ⟨_, rfl, by decide, by decide⟩,
    ⟨_, rfl, by decide⟩, ⟨_, rfl, by decide, by decide⟩, _, rfl, by decide, by decide⟩

theorem witness_CodeChangesOnlyAtCompletion :
    ∃ t, step (withInputs [cmdWrite host 6]) = .next t ∧ t.status.code ≠ State.reset.status.code :=
  ⟨_, rfl, by decide⟩

theorem witness_ModeChangesOnlyByGeneratorCommands :
    ∃ t, step (withInputs [cmdWrite host 0x005A0002]) = .next t
      ∧ t.status.mode ≠ State.reset.status.mode := ⟨_, rfl, by decide⟩

theorem witness_OnlyGeneratorCommandsWritePulseConfig :
    (∃ t, exec (.pulse 16000 100) State.reset = .next t ∧ t.status.code = .pwmEnabled)
    ∧ (∃ t, exec (.pulse 0 255) State.reset = .next t)
    ∧ (∃ t, exec (.servo 180) State.reset = .next t ∧ t.status.code = .servoEnabled)
    ∧ (∃ t, exec (.servo 181) State.reset = .next t ∧ t.status.code = .range)
    ∧ ∃ t, step (withInputs [cmdWrite host 0x005A0002]) = .next t ∧ t.pcfg ≠ State.reset.pcfg :=
  ⟨⟨_, rfl, by decide⟩, ⟨_, rfl⟩, ⟨_, rfl, by decide⟩, ⟨_, rfl, by decide⟩, _, rfl, by decide⟩

theorem witness_ResultChangesOnlyAtItsCompletions :
    ∃ t, step (gate1At 0x4000) = .next t ∧ t.result ≠ (gate1At 0x4000).result :=
  ⟨_, rfl, by decide⟩

theorem witness_CodesOfEachCommand :
    (∃ t, exec (.pulse 1 0) State.reset = .next t) ∧ (∃ t, exec (.servo 0) State.reset = .next t)
    ∧ (∃ t, exec .measure State.reset = .next t) ∧ (∃ t, exec .read State.reset = .next t)
    ∧ (∃ t, exec (.drive true) State.reset = .next t) ∧ (∃ t, exec .hiz State.reset = .next t)
    ∧ (∃ t, step (gate1At 0x4000) = .next t ∧ (gate1At 0x4000).status.busy = true
      ∧ t.status.busy = false) :=
  ⟨⟨_, rfl⟩, ⟨_, rfl⟩, ⟨_, rfl⟩, ⟨_, rfl⟩, ⟨_, rfl⟩, ⟨_, rfl⟩, _, rfl, by decide, by decide⟩

theorem witness_ObservationRegistersChangeNoBehaviour :
    ∃ t, step (gate2At 3999) = .next t ∧ t.obs ≠ (gate2At 3999).obs := ⟨_, rfl, by decide⟩

theorem witness_ResetRestoresEverything :
    { measuring with inputs := [.reset] }.inputs = .reset :: []
    ∧ (gate1At 0x4000).status.busy = true
    ∧ ∃ t, step (gate1At 0x4000) = .next t ∧ t.status.busy = false :=
  ⟨rfl, by decide, _, rfl, by decide⟩

theorem witness_StepsKeepModesExclusive :
    (gate1At 0x3FFF).Exclusive ∧ (averagingAt .avgLoop 3 1 5 1 [6]).Exclusive ∧ steering.Exclusive
    ∧ ∃ t, step (gate1At 0x3FFF) = .next t := ⟨by decide, by decide, by decide, _, rfl⟩

theorem witness_StepsKeepFieldsInRange :
    (gate1At 0x3FFF).Exclusive ∧ (gate1At 0x3FFF).InRange ∧ ∃ t, step (gate1At 0x3FFF) = .next t :=
  ⟨by decide, ⟨by decide, by decide, by decide, by decide, Nat.zero_le _, by decide⟩, _, rfl⟩

theorem witness_ResetMeetsTheInvariants :
    1 ≤ elsewhere.gateTicks ∧ 1 ≤ { host with gateTicks := 1 }.gateTicks := by decide

theorem witness_ReachedStatesMeetR46 :
    ∃ t, runSteps 1 { State.reset with
        params := elsewhere, inputs := [cmdWrite elsewhere 0x005A0002], line := none } = .next t
      ∧ t.status.mode = .pwm := ⟨_, rfl, by decide⟩

/-- Ticks and edges that move something, and each way to wait. -/
theorem witness_TimeAndEnvironmentLeaveRegistersAlone :
    { pulsing with inputs := [.ticks 1] }.inputs = .ticks 1 :: []
    ∧ { measuring with inputs := [.edges 256] }.inputs = .edges 256 :: []
    ∧ { pulsing with inputs := [.level (some true)] }.inputs = .level (some true) :: []
    ∧ pulsing.waits ∧ measuring.waits ∧ { gate2At 0 with gate := measuring.gate }.waits
    ∧ (averagingAt .avgFirst 2 0 0 0 []).waits ∧ (averagingAt .avgLoop 2 1 0 0 []).waits
    ∧ { pulsing with inputs := [.sequencer] }.inputs = .sequencer :: [] ∧ measuring.inputs = []
    ∧ (∃ t, step (gate1At 0x3FFF) = .next t) ∧ 1 ≠ host.pinSel ∧ 3 = elsewhere.pinSel :=
  ⟨rfl, rfl, rfl, by decide, by decide, by decide, by decide, by decide, rfl, rfl, ⟨_, rfl⟩, by decide,
    by decide⟩

/-- CMD, DONE and AUTORANGE each changing, in both directions where they have two. -/
theorem witness_CmdDoneAndAutorangeChangeByTheirRules :
    (∃ t, step (withInputs [cmdWrite host 6]) = .next t ∧ (∀ rest, (withInputs [cmdWrite host 6]).inputs
        ≠ .reset :: rest) ∧ (withInputs [cmdWrite host 6]).acceptsNext 6 [] ∧ t.cmd ≠ State.reset.cmd
      ∧ (withInputs [cmdWrite host 6]).mayComplete ∧ t.seq = .idle
      ∧ State.reset.status.done = false ∧ t.status.done = true)
    ∧ (∃ t, step { pulsing with inputs := [wr host .status 2] } = .next t
      ∧ pulsing.status.done = true ∧ t.status.done = false)
    ∧ (∃ t, step { driving with inputs := [cmdWrite host 3] } = .next t
      ∧ driving.status.done = true ∧ t.status.done = false)
    ∧ (∃ t, step (gate1At 0x3FFF) = .next t ∧ (gate1At 0x3FFF).status.autorange = false
      ∧ t.status.autorange = true)
    ∧ (∃ t, step { nextOf (step (gate2At 0)) with inputs := [cmdWrite host 3] } = .next t
      ∧ (nextOf (step (gate2At 0))).status.autorange = true ∧ t.status.autorange = false)
    ∧ { measuring with inputs := [.reset] }.inputs = .reset :: [] :=
  ⟨⟨_, rfl, fun _ h => (by cases h), by decide, by decide, .inr ⟨6, [], by decide⟩, by decide, by decide,
      by decide⟩,
    ⟨_, rfl, by decide, by decide⟩, ⟨_, rfl, by decide, by decide⟩, ⟨_, rfl, by decide, by decide⟩,
    ⟨_, rfl, by decide, by decide⟩, rfl⟩

end Sys2Proof.Tests
end

section
/-! What time and the environment leave unchanged (10_state.md R42 to R45, 40_controller.md R113): the
frame of source ticks and of edges, and a sequencer that waits. -/

namespace Sys2Proof.Machine

/-! The peripherals under ticks and edges -/

/-- Source ticks move the generator's counters and nothing else of it (R42). -/
theorem advanceGenerator_frame (n : Nat) (g : Generator) :
    advanceGenerator n g =
      { g with gc := (advanceGenerator n g).gc, gp := (advanceGenerator n g).gp } := by
  rw [← advanceGenerator_ratio n g, ← advanceGenerator_en n g, ← advanceGenerator_kind n g,
    ← advanceGenerator_period n g, ← advanceGenerator_compare n g]

theorem gateRuns_eq_false_iff {g : Gate} : gateRuns g = false ↔ g.refTimer = .stopped := by
  unfold gateRuns; split <;> simp_all

/-- Source ticks move the reference timer with its flag and nothing else of the gate (R43). -/
theorem advanceRefTimer_frame (window n : Nat) (g : Gate) :
    advanceRefTimer window n g =
      { g with
        refTimer := (advanceRefTimer window n g).refTimer
        expired := (advanceRefTimer window n g).expired } := by
  cases h : g.refTimer with
  | stopped => rw [advanceRefTimer_stopped h]
  | running e => rw [advanceRefTimer_running h]

/-- Source ticks move the timestamp counter and nothing else of the capture pair (R44). -/
theorem advanceTimestamp_frame (n : Nat) (c : Capture) :
    advanceTimestamp n c = { c with timestamp := (advanceTimestamp n c).timestamp } := by
  unfold advanceTimestamp; split <;> rfl

/-- Edges move the gate's two counters and nothing else of it (R43). -/
theorem countEdges_frame (n : Nat) (g : Gate) :
    countEdges n g =
      { g with count := (countEdges n g).count, prescaler := (countEdges n g).prescaler } := by
  unfold countEdges; split <;> rfl

/-- A gate whose window does not run, or has ended, counts no edge (R43, 42_measure.md R164). -/
theorem countEdges_off {n : Nat} {g : Gate} (h : gateRuns g = false ∨ g.expired = true) :
    countEdges n g = g := by
  refine if_neg fun hc => ?_
  obtain ⟨⟨e, hrun⟩, hexp⟩ := gateCounts_cases hc
  rcases h with hstop | hend
  · simp [gateRuns_eq_false_iff.1 hstop] at hrun
  · simp [hend] at hexp

/-- Edges fill the capture buffer and change nothing else of the capture pair (R44). -/
theorem captureEdges_frame (n : Nat) (c : Capture) :
    captureEdges n c = { c with buffer := (captureEdges n c).buffer } := by
  unfold captureEdges; split <;> rfl

/-! The block under ticks and edges -/

theorem passTicks_onlyTicked (n : Nat) (s : State) : s.onlyTicked (passTicks n s) := by
  refine ⟨?frame, advanceGenerator_off, fun h => ?gate, advanceTimestamp_off⟩
  case frame =>
    simp only [passTicks_gen, passTicks_gate, passTicks_capture]
    rw [← advanceGenerator_frame, ← advanceRefTimer_frame, ← advanceTimestamp_frame]
    rfl
  case gate => exact advanceRefTimer_stopped (gateRuns_eq_false_iff.1 h)

theorem passEdges_onlyEdged (n : Nat) (s : State) : s.onlyEdged (passEdges n s) := by
  refine ⟨?frame, countEdges_off, captureEdges_off⟩
  simp only [passEdges_gate, passEdges_capture]
  rw [← countEdges_frame, ← captureEdges_frame]
  rfl

/-- No register of the window shows the counters that source ticks move. -/
theorem readReg_passTicks (r : Reg) (n : Nat) (s : State) :
    readReg r (passTicks n s) = readReg r s := by
  cases r
  case genCfg => simp [readReg, genCfgWord]
  case genPeriod => simp [readReg]
  case genCompare => simp [readReg]
  all_goals rfl

/-- No register of the window shows what edges move. -/
theorem readReg_passEdges (r : Reg) (n : Nat) (s : State) :
    readReg r (passEdges n s) = readReg r s := by
  cases r <;> rfl

/-! The sequencer that waits -/

/-- `State.waits` says of the phases what `seqEnabled` computes (42_measure.md R164, R171, R172). -/
theorem seqEnabled_eq_false_iff (s : State) : seqEnabled s = false ↔ s.waits := by
  cases h : s.seq <;> simp [seqEnabled, State.waits, gatePhase, averagerPhase, h]

/-- A turn that finds nothing enabled is used up (log 17). -/
theorem seqTurn_of_seqEnabled_eq_false {s : State} (h : seqEnabled s = false) : seqTurn s = s := by
  rcases seqTurn_cases s with
    hturn | ⟨hseq, hexp, -⟩ | ⟨hseq, hexp, -⟩ | ⟨hseq, t, b, hbuf, -⟩ | ⟨hseq, t, b, hbuf, -⟩
  · exact hturn
  · simp [seqEnabled, hseq, hexp] at h
  · simp [seqEnabled, hseq, hexp] at h
  · simp [seqEnabled, hseq, hbuf] at h
  · simp [seqEnabled, hseq, hbuf] at h

theorem seqTurn_of_waits {s : State} (h : s.waits) : seqTurn s = s :=
  seqTurn_of_seqEnabled_eq_false ((seqEnabled_eq_false_iff s).2 h)

/-- With no input, a block whose sequencer waits lets one source tick pass (log 3). -/
theorem step_of_waits {s : State} (hi : s.inputs = []) (h : s.waits) :
    step s = .next (passTicks 1 s) := by
  have hoff : seqEnabled s = false := (seqEnabled_eq_false_iff s).2 h
  simp [step, hi, runAlone, hoff]

/-! The parameters and the lines -/

theorem change_params {s0 s t : State} (h : Change s0 s t) : t.params = s.params := by
  cases h <;> rfl

/-- No step changes a parameter (log 11). -/
theorem step_params {s t : State} (h : step s = .next t) : t.params = s.params := by
  rcases step_change h with ⟨rest, -, rfl⟩ | ⟨-, rest, hchange⟩
  · rfl
  · exact (change_params hchange :)

/-- The block drives the line P_PIN_SEL selects as its pin (R113, log 21). -/
theorem lineDrive_pinSel {line : Nat} {s : State} (h : line = s.params.pinSel) :
    lineDrive line s = pinDrive s := if_pos h

theorem lineDrive_other {line : Nat} {s : State} (h : line ≠ s.params.pinSel) :
    lineDrive line s = .highZ := if_neg h

/-- Settles O59: one clause per input from the frames of ticks and edges, the parameters from the list of
everything a step can do. -/
theorem timeAndEnvironmentLeaveRegistersAlone :
    Obligations.TimeAndEnvironmentLeaveRegistersAlone := by
  refine ⟨fun s rest => ⟨fun n hi => ?ticks, fun n hi => ?edges, fun l hi => ?level,
    fun hi hwaits => ?turn, fun hi hwaits => ?alone⟩, fun s t => step_params,
    fun s line => ⟨lineDrive_pinSel, lineDrive_other⟩⟩
  case ticks =>
    exact ⟨_, step_input hi, passTicks_onlyTicked n _, fun r => readReg_passTicks r n _⟩
  case edges =>
    exact ⟨_, step_input hi, passEdges_onlyEdged n _, fun r => readReg_passEdges r n _⟩
  case level => exact step_input hi
  case turn =>
    have hstay : seqTurn { s with inputs := rest } = { s with inputs := rest } :=
      seqTurn_of_waits hwaits
    rw [step_input hi, consume, hstay]
  case alone =>
    exact ⟨_, step_of_waits hi hwaits, passTicks_onlyTicked 1 s, fun r => readReg_passTicks r 1 s⟩

end Sys2Proof.Machine
end

section
/-! The situations of the mode state machine (10_state.md R21, R46, 40_controller.md R112): a state meets
the invariant exactly when the block rests, generates or measures, and every step leads from one of these
situations to one of them. -/

namespace Sys2Proof.Machine

/-! The three situations -/

/-- No command runs and no timing peripheral is bound: IO mode. -/
structure State.Rests (s : State) : Prop where
  seq : s.seq = .idle
  busy : s.status.busy = false
  mode : s.status.mode = .io
  genOff : s.gen.en = false
  neutral : s.offIsNeutral
  func : s.pin.func = .digitalIn ∨ s.pin.func = .digitalOut
  gate : gateRuns s.gate = false
  capture : s.capture.enabled = false

/-- The generator runs on the pin: PWM mode. -/
structure State.Generates (s : State) : Prop where
  seq : s.seq = .idle
  busy : s.status.busy = false
  mode : s.status.mode = .pwm
  genOn : s.gen.en = true
  compare : s.gen.compare ≤ s.gen.period
  func : s.pin.func = .pwmOut
  gate : gateRuns s.gate = false
  capture : s.capture.enabled = false

/-- A MEASURE runs: the sequencer's phase decides which peripheral is enabled (R112). -/
structure State.Measures (s : State) : Prop where
  seq : s.seq ≠ .idle
  busy : s.status.busy = true
  mode : s.status.mode = .io
  genOff : s.gen.en = false
  neutral : s.offIsNeutral
  func : s.pin.func = .captureIn
  gate : gateRuns s.gate = gatePhase s.seq
  capture : s.capture.enabled = averagerPhase s.seq

theorem neutral_of_gen_neutral {s : State} (h : s.gen = Generator.neutral) : s.offIsNeutral := by
  simp [State.offIsNeutral, h, Generator.neutral]

theorem State.Rests.exclusive {s : State} (h : s.Rests) : s.Exclusive := by
  have hfunc : s.pin.func ≠ .pwmOut ∧ s.pin.func ≠ .captureIn := by
    rcases h.func with hf | hf <;> simp [hf]
  exact ⟨⟨⟨by simp [h.mode, h.genOff], by simp [h.genOff, hfunc]⟩, h.neutral,
    iff_of_false hfunc.2 (not_not.2 h.seq), by simp [State.compareBound, h.genOff],
    by simp [State.oneTimerAtMost, h.genOff, h.gate]⟩, iff_of_true h.seq h.busy,
    by simp [State.phaseBound, h.seq, h.gate, h.capture, gatePhase, averagerPhase]⟩

theorem State.Generates.exclusive {s : State} (h : s.Generates) : s.Exclusive :=
  ⟨⟨⟨by simp [h.mode, h.genOn], by simp [h.genOn, h.func]⟩, by simp [State.offIsNeutral, h.genOn],
    iff_of_false (by simp [h.func]) (not_not.2 h.seq), fun _ => h.compare,
    by simp [State.oneTimerAtMost, h.gate, h.capture]⟩, iff_of_true h.seq h.busy,
    by simp [State.phaseBound, h.seq, h.gate, h.capture, gatePhase, averagerPhase]⟩

/-- No phase is both a gate window and one of the averager's. -/
theorem not_gatePhase_and_averagerPhase (p : Phase) :
    ¬(gatePhase p = true ∧ averagerPhase p = true) := by cases p <;> decide

theorem State.Measures.exclusive {s : State} (h : s.Measures) : s.Exclusive :=
  ⟨⟨⟨by simp [h.mode, h.genOff], by simp [h.genOff, h.func]⟩, h.neutral,
    iff_of_true h.func h.seq, by simp [State.compareBound, h.genOff], by simp [h.genOff],
    by simp [h.genOff], by rw [h.gate, h.capture]; exact not_gatePhase_and_averagerPhase s.seq⟩,
    iff_of_false h.seq (by simp [h.busy]), h.gate, h.capture⟩

/-- While no command runs the block rests or generates. -/
theorem State.Exclusive.rests_or_generates {s : State} (h : s.Exclusive) (hbusy : s.status.busy = false) :
    s.Rests ∨ s.Generates := by
  obtain ⟨⟨⟨hmode, hpwm⟩, hneutral, hcapt, hcmp, -⟩, hidle, hgate, hcap⟩ := h
  have hseq : s.seq = .idle := hidle.2 hbusy
  rw [hseq] at hgate hcap
  cases hen : s.gen.en with
  | true => exact .inr ⟨hseq, hbusy, hmode.2 hen, hen, hcmp hen, hpwm.1 hen, hgate, hcap⟩
  | false =>
    refine .inl ⟨hseq, hbusy, ?mode, hen, hneutral, ?func, hgate, hcap⟩
    case mode => cases hm : s.status.mode with
      | io => rfl
      | pwm => simp [hmode.1 hm] at hen
    case func => cases hf : s.pin.func with
      | digitalIn => exact .inl rfl
      | digitalOut => exact .inr rfl
      | pwmOut => simp [hpwm.2 hf] at hen
      | captureIn => exact absurd hseq (hcapt.1 hf)

/-- In IO mode a block without a running command rests. -/
theorem State.Exclusive.rests {s : State} (h : s.Exclusive) (hbusy : s.status.busy = false)
    (hmode : s.status.mode = .io) : s.Rests := by
  rcases h.rests_or_generates hbusy with hrest | hgen
  · exact hrest
  · cases hmode.symm.trans hgen.mode

/-- A sequencer that is not idle measures. -/
theorem State.Exclusive.measures {s : State} (h : s.Exclusive) (hseq : s.seq ≠ .idle) : s.Measures := by
  obtain ⟨⟨⟨hmode, hpwm⟩, hneutral, hcapt, -, -⟩, hidle, hgate, hcap⟩ := h
  have hfunc : s.pin.func = .captureIn := hcapt.2 hseq
  have hoff : s.gen.en = false := by
    cases hen : s.gen.en with
    | false => rfl
    | true => cases hfunc.symm.trans (hpwm.1 hen)
  refine ⟨hseq, ?busy, ?mode, hoff, hneutral, hfunc, hgate, hcap⟩
  case busy => cases hb : s.status.busy with
    | true => rfl
    | false => exact absurd (hidle.2 hb) hseq
  case mode => cases hm : s.status.mode with
    | io => rfl
    | pwm => simp [hmode.1 hm] at hoff

/-! What a step that changes no mode keeps -/

/-- Two states whose modes, phases and enabled peripherals are the same. -/
structure State.sameModes (s t : State) : Prop where
  seq : t.seq = s.seq
  busy : t.status.busy = s.status.busy
  mode : t.status.mode = s.status.mode
  en : t.gen.en = s.gen.en
  ratio : t.gen.ratio = s.gen.ratio
  kind : t.gen.kind = s.gen.kind
  period : t.gen.period = s.gen.period
  compare : t.gen.compare = s.gen.compare
  func : t.pin.func = s.pin.func
  gate : gateRuns t.gate = gateRuns s.gate
  capture : t.capture.enabled = s.capture.enabled

/-- The invariant speaks of nothing else. -/
theorem State.sameModes.exclusive {s t : State} (h : s.sameModes t) (hs : s.Exclusive) : t.Exclusive := by
  simpa only [State.Exclusive, State.R46, State.modeBound, State.offIsNeutral, State.captureBound,
    State.compareBound, State.oneTimerAtMost, State.busyBound, State.phaseBound, h.seq, h.busy, h.mode,
    h.en, h.ratio, h.kind, h.period, h.compare, h.func, h.gate, h.capture] using hs

@[simp] theorem gateRuns_advanceRefTimer (window n : Nat) (g : Gate) :
    gateRuns (advanceRefTimer window n g) = gateRuns g := by
  cases h : g.refTimer with
  | stopped => rw [advanceRefTimer_stopped h]
  | running e => rw [advanceRefTimer_running h]; simp [gateRuns, h]

@[simp] theorem gateRuns_countEdges (n : Nat) (g : Gate) :
    gateRuns (countEdges n g) = gateRuns g := by
  simp [gateRuns]

theorem passTicks_sameModes (n : Nat) (s : State) : s.sameModes (passTicks n s) := by
  constructor <;> simp

theorem passEdges_sameModes (n : Nat) (s : State) : s.sameModes (passEdges n s) := by
  constructor <;> simp

/-- A completion at acceptance that binds nothing (an error, a conflict, a sample) is the idle block
again. -/
theorem sameModes_of_completed_idle {s t : State} (hs : s.Exclusive) (hb : s.status.busy = false)
    (hseq : t.seq = .idle) (hbusy : t.status.busy = false) (hmode : t.status.mode = s.status.mode)
    (hgen : t.gen = s.gen) (hpin : t.pin = s.pin) (hgate : t.gate = s.gate)
    (hcap : t.capture = s.capture) : s.sameModes t := by
  have hidle : s.seq = .idle := hs.2.1.2 hb
  constructor <;> simp [*]

/-! The commands and the sequencer's exits -/

theorem detach_func_io (p : Pin) :
    (detach p).func = .digitalIn ∨ (detach p).func = .digitalOut := by
  rw [detach_func]; cases p.func <;> simp

/-- A completion behind TimingReset in IO mode rests: the exits of a MEASURE (42_measure.md R179) and the
disable form of PULSE (41_pulse_generator.md R134). -/
theorem rests_of_timingReset {s t : State} (hseq : t.seq = .idle) (hbusy : t.status.busy = false)
    (hmode : t.status.mode = .io) (hgen : t.gen = Generator.neutral) (hpin : t.pin = detach s.pin)
    (hgate : t.gate = disableGate s.gate) (hcap : t.capture.enabled = false) : t.Rests where
  seq := hseq
  busy := hbusy
  mode := hmode
  genOff := by rw [hgen]; rfl
  neutral := neutral_of_gen_neutral hgen
  func := by rw [hpin]; exact detach_func_io s.pin
  gate := by rw [hgate]; rfl
  capture := hcap

theorem disablePulse_rests (s : State) : (disablePulse s).Rests :=
  rests_of_timingReset (s := s) rfl rfl rfl rfl rfl rfl rfl

theorem exitMeasure_rests (c : Code) (int frac digits : Nat) {s : State} (h : s.status.mode = .io) :
    (exitMeasure c int frac digits s).Rests :=
  rests_of_timingReset (s := s) rfl rfl h rfl rfl rfl rfl

theorem exitMeasureFail_rests {s : State} (h : s.status.mode = .io) : (exitMeasureFail s).Rests :=
  rests_of_timingReset (s := s) rfl rfl h rfl rfl rfl rfl

/-- A field of `w` bits holds a value that fits within a bound that fits. -/
theorem ofNat_le_of_le {w a : Nat} {b : BitVec w} (h : a ≤ b.toNat) : BitVec.ofNat w a ≤ b := by
  rw [BitVec.le_def, BitVec.toNat_ofNat, Nat.mod_eq_of_lt (lt_of_le_of_lt h b.isLt)]
  exact h

/-- A 16-bit register holds the values that fit it in order. -/
theorem ofNat_le_ofNat {a b : Nat} (hab : a ≤ b) (hb : b < 2 ^ 16) :
    BitVec.ofNat 16 a ≤ BitVec.ofNat 16 b :=
  ofNat_le_of_le (by rwa [BitVec.toNat_ofNat, Nat.mod_eq_of_lt hb])

theorem enablePulse_generates {f d : Nat} (hf : 1 ≤ f) (hd : d ≤ 100) (s : State) :
    (enablePulse f d s).Generates := by
  have hperiod := pulsePeriod_le hf
  exact ⟨rfl, rfl, rfl, rfl, ofNat_le_ofNat (pulseDuty_le hd) (by omega), rfl, rfl, rfl⟩

theorem enableServo_generates {a : Nat} (ha : a ≤ 180) (r : Ratio) (s : State) :
    (enableServo r a s).Generates := by
  have hduty := servoDuty_le ha
  exact ⟨rfl, rfl, rfl, rfl, ofNat_le_ofNat (by unfold servoPeriod; omega) (by decide), rfl, rfl, rfl⟩

theorem startMeasure_measures {s : State} (hbusy : s.status.busy = true) (hmode : s.status.mode = .io) :
    (startMeasure s).Measures :=
  ⟨by simp, hbusy, hmode, rfl, neutral_of_gen_neutral rfl, rfl, rfl, rfl⟩

/-- A reset event leaves what State.reset holds. -/
theorem resetEvent_rests (s : State) : (resetEvent s).Rests :=
  ⟨rfl, rfl, rfl, rfl, neutral_of_gen_neutral rfl, .inl rfl, rfl, rfl⟩

/-! Every step -/

theorem change_exclusive {s0 s t : State} (h : Change s0 s t) (hs : s.Exclusive) : t.Exclusive := by
  cases h with
  | ticks n => exact (passTicks_sameModes n s).exclusive hs
  | edges n => exact (passEdges_sameModes n s).exclusive hs
  | line | read | nothing | clear | refuse => exact hs
  | exitOk c int frac digits o a cap _ _ hseq =>
    exact State.Rests.exclusive (exitMeasure_rests _ _ _ _ (hs.measures hseq).mode)
  | exitFail o a cap hseq => exact State.Rests.exclusive (exitMeasureFail_rests (hs.measures hseq).mode)
  | rearm hseq =>
    obtain ⟨_, hbusy, hmode, hoff, hneutral, hfunc, _, hcap⟩ := hs.measures (by simp [hseq])
    exact State.Measures.exclusive
      ⟨by simp, hbusy, hmode, hoff, hneutral, hfunc, rfl, by simpa [hseq, averagerPhase] using hcap⟩
  | startAverager hseq =>
    obtain ⟨_, hbusy, hmode, hoff, hneutral, hfunc, _, _⟩ := hs.measures (by simp [hseq])
    exact State.Measures.exclusive ⟨by simp, hbusy, hmode, hoff, hneutral, hfunc, rfl, rfl⟩
  | baseline x b hseq =>
    obtain ⟨_, hbusy, hmode, hoff, hneutral, hfunc, hgate, hcap⟩ := hs.measures (by simp [hseq])
    rw [hseq] at hgate hcap
    exact State.Measures.exclusive ⟨by simp, hbusy, hmode, hoff, hneutral, hfunc, hgate, hcap⟩
  | interval => exact hs
  | failed w e _ hb =>
    exact State.sameModes.exclusive (sameModes_of_completed_idle hs hb rfl rfl (by simp) rfl rfl rfl rfl)
      hs
  | disable => exact (disablePulse_rests _).exclusive
  | enable w f d _ _ _ hf _ hd => exact (enablePulse_generates hf hd _).exclusive
  | servo w a _ _ _ ha => exact (enableServo_generates ha _ _).exclusive
  | conflict w _ hb =>
    exact State.sameModes.exclusive (sameModes_of_completed_idle hs hb rfl rfl rfl rfl rfl rfl rfl) hs
  | start w _ _ _ hmode => exact State.Measures.exclusive (startMeasure_measures rfl hmode)
  | sample w _ hb =>
    exact State.sameModes.exclusive (sameModes_of_completed_idle hs hb rfl rfl rfl rfl rfl rfl rfl) hs
  | drive w l _ hb _ hmode =>
    obtain ⟨_, _, hmode, hoff, hneutral, _, hgate, hcap⟩ := hs.rests hb hmode
    exact State.Rests.exclusive ⟨rfl, rfl, hmode, hoff, hneutral, .inr rfl, hgate, hcap⟩
  | release w _ hb _ hmode =>
    obtain ⟨_, _, hmode, hoff, hneutral, _, hgate, hcap⟩ := hs.rests hb hmode
    exact State.Rests.exclusive ⟨rfl, rfl, hmode, hoff, hneutral, .inl rfl, hgate, hcap⟩

theorem step_exclusive {s t : State} (hs : s.Exclusive) (h : step s = .next t) : t.Exclusive := by
  rcases step_change h with ⟨rest, -, rfl⟩ | ⟨-, rest, hchange⟩
  · exact (resetEvent_rests _).exclusive
  · exact change_exclusive hchange hs

/-- Settles O56: each change leads from one of the three situations to one of them. -/
theorem stepsKeepModesExclusive : Obligations.StepsKeepModesExclusive :=
  fun _ _ hs h => step_exclusive hs h

theorem reset_exclusive (p : Params) (xs : List Input) (l : Option Bool) :
    { State.reset with params := p, inputs := xs, line := l }.Exclusive :=
  (show State.Rests _ from
    ⟨rfl, rfl, rfl, rfl, neutral_of_gen_neutral rfl, .inl rfl, rfl, rfl⟩).exclusive

/-- Settles O58: the step invariant along a run from reset. -/
theorem reachedStatesMeetR46 : Obligations.ReachedStatesMeetR46 := by
  intro p xs l k t hrun
  have ht : t.Exclusive :=
    runSteps_invariant (fun _ _ hs h => step_exclusive hs h) (reset_exclusive p xs l) hrun
  obtain ⟨⟨⟨hmode, hpwm⟩, hneutral, hcapt, hcompare, hone⟩, -⟩ := ht
  exact ⟨hmode, hpwm, hneutral, hcapt, hcompare, hone⟩

end Sys2Proof.Machine
end

section
/-! The ranges of the fields (10_state.md R34, R35, R42 to R44, 42_measure.md R164, R170, R172): each
peripheral's own operations keep its range, and every step is one of them. -/

namespace Sys2Proof.Machine

theorem ratioTicks_pos (r : Ratio) : 0 < ratioTicks r := by cases r <;> decide

/-! The result and configuration registers -/

theorem zero_le_field {w : Nat} {b : BitVec w} : 0 ≤ b := ofNat_le_of_le (Nat.zero_le _)

theorem change_registersInRange {s0 s t : State} (h : Change s0 s t) (hs : s.registersInRange) :
    t.registersInRange := by
  obtain ⟨hdigits, hduty, hangle, hperiod⟩ := hs
  cases h with
  | ticks n => exact ⟨hdigits, hduty, hangle, by simpa using hperiod⟩
  | exitOk c int frac digits _ _ _ _ hle => exact ⟨ofNat_le_of_le hle, hduty, hangle, zero_le_field⟩
  | exitFail | disable | start => exact ⟨hdigits, hduty, hangle, zero_le_field⟩
  | enable w f d _ _ _ hf _ hd =>
    have hle : pulsePeriod f ≤ 1250 := (pulsePeriod_le hf).trans (by decide)
    exact ⟨hdigits, ofNat_le_of_le hd, hangle, ofNat_le_of_le hle⟩
  | servo w a _ _ _ ha => exact ⟨hdigits, hduty, ofNat_le_of_le ha, BitVec.le_refl _⟩
  | sample => exact ⟨zero_le_field, hduty, hangle, hperiod⟩
  | edges | line | read | clear | nothing | refuse | rearm | startAverager | baseline | interval | failed
  | conflict | drive | release => exact ⟨hdigits, hduty, hangle, hperiod⟩

/-! The generator -/

/-- The generator's counters are below their ends. -/
def Generator.CountersInRange (g : Generator) : Prop := g.gc ≤ g.period ∧ g.gp < ratioTicks g.ratio

/-- One source tick keeps the counters below their ends (41_pulse_generator.md R138). -/
theorem tickGenerator_countersInRange {g : Generator} (h : g.CountersInRange) :
    (tickGenerator g).CountersInRange := by
  obtain ⟨hgc, hgp⟩ := h
  unfold tickGenerator
  split
  · split
    · refine ⟨?counter, ratioTicks_pos g.ratio⟩
      change (if g.gc = g.period then 0 else g.gc + 1) ≤ g.period
      split <;> bv_omega
    · exact ⟨hgc, by dsimp only; omega⟩
  · exact ⟨hgc, hgp⟩

theorem tickGeneratorTimes_countersInRange (n : Nat) {g : Generator} (h : g.CountersInRange) :
    (tickGeneratorTimes n g).CountersInRange := by
  induction n generalizing g with
  | zero => exact h
  | succ n ih => exact ih (tickGenerator_countersInRange h)

theorem advanceGenerator_countersInRange (n : Nat) {g : Generator} (h : g.CountersInRange) :
    (advanceGenerator n g).CountersInRange := by
  unfold advanceGenerator
  split
  · exact tickGeneratorTimes_countersInRange n h
  · exact h

theorem change_generatorInRange {s0 s t : State} (h : Change s0 s t) (hs : s.generatorInRange) :
    t.generatorInRange := by
  cases h with
  | ticks n =>
    intro hen
    exact advanceGenerator_countersInRange n (hs (by simpa using hen))
  | exitOk | exitFail | disable | start => exact fun hen => (by cases hen)
  | enable | servo => exact fun _ => ⟨zero_le_field, ratioTicks_pos _⟩
  | edges | line | read | clear | nothing | refuse | rearm | startAverager | baseline | interval | failed
  | conflict | sample | drive | release => exact hs

/-! The gate -/

/-- Ticks keep the reference timer in its window and its flag at the window's end (R43, log 15). -/
theorem advanceRefTimer_timerInRange {window : Nat} (n : Nat) {g : Gate}
    (h : timerInRange window g = true) :
    timerInRange window (advanceRefTimer window n g) = true := by
  cases hrun : g.refTimer with
  | stopped => rwa [advanceRefTimer_stopped hrun]
  | running e =>
    rw [advanceRefTimer_running hrun]
    simp only [timerInRange, hrun, Bool.and_eq_true, decide_eq_true_iff, beq_iff_eq] at h ⊢
    obtain ⟨he, hflag⟩ := h
    refine ⟨by omega, ?_⟩
    rw [hflag, ← Bool.decide_or, decide_eq_decide]
    omega

@[simp] theorem timerInRange_countEdges (window n : Nat) (g : Gate) :
    timerInRange window (countEdges n g) = timerInRange window g := by
  simp [timerInRange]

/-- A window just armed has not ended: it lasts at least one tick (00_scope.md R9, log 12). -/
theorem timerInRange_armed {window : Nat} (h : 1 ≤ window) (r : Ratio) (s : State) :
    timerInRange window (arm r s).gate = true := by
  have hne : 0 ≠ window := by omega
  simp [timerInRange, hne]

/-- Edges leave the prescaler below the ratio: it counts modulo the ratio (42_measure.md R164). -/
theorem countEdges_prescaler_lt (n : Nat) {g : Gate} (h : g.prescaler < ratioTicks g.ratio) :
    (countEdges n g).prescaler < ratioTicks g.ratio := by
  unfold countEdges
  split
  · exact Nat.mod_lt _ (ratioTicks_pos _)
  · exact h

/-- An idle block's gate is in range when its prescaler and its timer are. -/
theorem gateInRange_of_idle {t : State} (hseq : t.seq = .idle)
    (hpre : t.gate.prescaler < ratioTicks t.gate.ratio)
    (htimer : timerInRange t.params.gateTicks t.gate = true) : t.gateInRange :=
  ⟨by simp [hseq], by simp [hseq], hpre, htimer⟩

theorem change_gateInRange {s0 s t : State} (h : Change s0 s t) (hlegal : s.parametersLegal)
    (hs : s.gateInRange) : t.gateInRange := by
  obtain ⟨hgate1, hgate2, hpre, htimer⟩ := hs
  cases h with
  | ticks n =>
    exact ⟨by simpa using hgate1, by simpa using hgate2, by simpa using hpre,
      advanceRefTimer_timerInRange n htimer⟩
  | edges n _ =>
    exact ⟨by simpa using hgate1, by simpa using hgate2, by simpa using countEdges_prescaler_lt n hpre,
      by simpa using htimer⟩
  | line | read | clear | nothing | refuse => exact ⟨hgate1, hgate2, hpre, htimer⟩
  | exitOk | exitFail | disable | enable | servo =>
    exact gateInRange_of_idle rfl (ratioTicks_pos _) rfl
  | rearm =>
    exact ⟨fun hseq => (by cases hseq), fun _ => rfl, ratioTicks_pos _, timerInRange_armed hlegal .r1 s⟩
  | startAverager => exact ⟨fun hseq => (by cases hseq), fun hseq => (by cases hseq), hpre, rfl⟩
  | baseline => exact ⟨fun hseq => (by cases hseq), fun hseq => (by cases hseq), hpre, htimer⟩
  | interval => exact ⟨hgate1, hgate2, hpre, htimer⟩
  | start =>
    exact ⟨fun _ => rfl, fun hseq => (by cases hseq), ratioTicks_pos _, timerInRange_armed hlegal .r256 s⟩
  | failed | conflict | sample | drive | release => exact gateInRange_of_idle rfl hpre htimer

/-! The capture buffer -/

theorem captureEdges_length (n : Nat) {c : Capture} (h : c.buffer.length ≤ Config.capDepth) :
    (captureEdges n c).buffer.length ≤ Config.capDepth := by
  unfold captureEdges
  split
  · exact pushCaptures_length h
  · exact h

theorem change_bufferInRange {s0 s t : State} (h : Change s0 s t) (hs : s.bufferInRange) :
    t.bufferInRange := by
  cases h with
  | ticks n => simpa [State.bufferInRange] using hs
  | edges n _ => exact captureEdges_length n hs
  | exitOk c int frac digits o a cap _ _ _ _ hlen => exact hlen.trans hs
  | exitFail o a cap _ _ hlen => exact hlen.trans hs
  | startAverager => exact Nat.zero_le _
  | baseline x b _ hbuf =>
    have hlen : b.length ≤ s.capture.buffer.length := by simp [hbuf]
    exact hlen.trans hs
  | interval x b _ hbuf _ =>
    have hlen : b.length ≤ s.capture.buffer.length := by simp [hbuf]
    exact hlen.trans hs
  | line | read | clear | nothing | refuse | rearm | failed | disable | enable | servo | conflict | start
  | sample | drive | release => exact hs

/-! The averager -/

/-- An interval that is not the last counts on, and its sum does not wrap (42_measure.md R172). -/
theorem accumulate_averagerInRange {s : State} (x : Word) (hn : s.avg.n.toNat ≤ 3999)
    (hi : s.avg.i.toNat < s.avg.n.toNat) (hsum : s.avg.sum.toNat ≤ s.avg.i.toNat * (2 ^ 32 - 1))
    (hnot : s.avg.i + 1 ≠ s.avg.n) :
    (accumulate x s).avg.i.toNat < (accumulate x s).avg.n.toNat
      ∧ (accumulate x s).avg.sum.toNat ≤ (accumulate x s).avg.i.toNat * (2 ^ 32 - 1) := by
  have hnext : (s.avg.i + 1).toNat = s.avg.i.toNat + 1 := by bv_omega
  have hne : (s.avg.i + 1).toNat ≠ s.avg.n.toNat := fun heq => hnot (BitVec.eq_of_toNat_eq heq)
  have hint : (interval s.avg.prev x).toNat < 2 ^ 32 := (interval s.avg.prev x).isLt
  change (s.avg.i + 1).toNat < s.avg.n.toNat
    ∧ (s.avg.sum + (interval s.avg.prev x).setWidth 64).toNat ≤ (s.avg.i + 1).toNat * (2 ^ 32 - 1)
  rw [hnext] at hne ⊢
  rw [BitVec.toNat_add, BitVec.toNat_setWidth]
  omega

theorem averagerInRange_of_not_averagerPhase {t : State} (h : averagerPhase t.seq = false) :
    t.averagerInRange := by
  refine ⟨fun hphase => by simp [h] at hphase, fun hloop => ?_⟩
  rw [hloop] at h
  cases h

theorem change_averagerInRange {s0 s t : State} (h : Change s0 s t) (hs : s.averagerInRange) :
    t.averagerInRange := by
  cases h with
  | ticks | edges | line | read | clear | nothing | refuse => exact hs
  | exitOk | exitFail | rearm | failed | disable | enable | servo | conflict | start | sample | drive
  | release => exact averagerInRange_of_not_averagerPhase rfl
  | startAverager _ _ hlo hhi => exact ⟨fun _ => ⟨hlo, hhi⟩, fun hloop => (by cases hloop)⟩
  | baseline x b hseq _ =>
    obtain ⟨hlo, hhi⟩ := hs.1 (by rw [hseq]; rfl)
    exact ⟨fun _ => ⟨hlo, hhi⟩, fun _ => ⟨hlo, Nat.zero_le _⟩⟩
  | interval x b hseq _ hnot =>
    obtain ⟨hlo, hhi⟩ := hs.1 (by rw [hseq]; rfl)
    obtain ⟨hi, hsum⟩ := hs.2 hseq
    exact ⟨fun _ => ⟨hlo, hhi⟩, fun _ => accumulate_averagerInRange x hhi hi hsum hnot⟩

/-! Every step -/

theorem change_inRange {s0 s t : State} (h : Change s0 s t) (hs : s.InRange) : t.InRange := by
  obtain ⟨hlegal, hregs, hgen, hgate, hbuf, havg⟩ := hs
  refine ⟨?legal, change_registersInRange h hregs, change_generatorInRange h hgen,
    change_gateInRange h hlegal hgate, change_bufferInRange h hbuf, change_averagerInRange h havg⟩
  rw [State.parametersLegal, change_params h]
  exact hlegal

/-- State.reset, with any parameters that R9 allows and whatever stands outside the block. -/
theorem reset_inRange {p : Params} (h : 1 ≤ p.gateTicks) (xs : List Input) (r : Option Word)
    (l : Option Bool) (k : Nat) :
    { State.reset with params := p, inputs := xs, reply := r, line := l, draws := k }.InRange :=
  ⟨h, ⟨zero_le_field, zero_le_field, zero_le_field, zero_le_field⟩, fun hen => (by cases hen),
    gateInRange_of_idle rfl (ratioTicks_pos _) rfl, Nat.zero_le _,
    averagerInRange_of_not_averagerPhase rfl⟩

theorem step_inRange {s t : State} (hs : s.InRange) (h : step s = .next t) : t.InRange := by
  rcases step_change h with ⟨rest, -, rfl⟩ | ⟨-, rest, hchange⟩
  · exact reset_inRange hs.1 rest s.reply s.line s.draws
  · exact change_inRange hchange hs

/-- Settles O57: one part of the range after the other, over the list of all changes. Its premise that the
modes exclude each other is not needed. -/
theorem stepsKeepFieldsInRange : Obligations.StepsKeepFieldsInRange :=
  fun _ _ _ hs h => step_inRange hs h

/-- Settles O55. -/
theorem resetMeetsTheInvariants : Obligations.ResetMeetsTheInvariants :=
  ⟨reset_exclusive Config.params [] none, reset_inRange (by decide) [] none none 0,
    fun p hp => ⟨reset_exclusive p [] none, reset_inRange hp [] none none 0⟩⟩

end Sys2Proof.Machine
end

section
/-! The generator's frames (41_pulse_generator.md R138) and the pin's waveform (10_state.md R45): the
counters in closed form, by induction on the source ticks. -/

namespace Sys2Proof.Machine

/-! One source tick -/

theorem tickGenerator_wrap {g : Generator} (hen : g.en = true) (h : g.gp + 1 = ratioTicks g.ratio) :
    tickGenerator g = { g with gp := 0, gc := if g.gc = g.period then 0 else g.gc + 1 } := by
  simp [tickGenerator, hen, h]

theorem tickGenerator_count {g : Generator} (hen : g.en = true) (h : g.gp + 1 ≠ ratioTicks g.ratio) :
    tickGenerator g = { g with gp := g.gp + 1 } := by
  simp [tickGenerator, hen, h]

theorem advanceGenerator_one {g : Generator} (hen : g.en = true) :
    advanceGenerator 1 g = tickGenerator g := by
  simp [advanceGenerator, hen, tickGeneratorTimes]

/-- Ticks in two inputs are ticks in one. -/
theorem advanceGenerator_add (m n : Nat) (g : Generator) :
    advanceGenerator (m + n) g = advanceGenerator n (advanceGenerator m g) := by
  cases hen : g.en with
  | false => rw [advanceGenerator_off hen, advanceGenerator_off hen, advanceGenerator_off hen]
  | true =>
    have hm : (advanceGenerator m g).en = true := by rw [advanceGenerator_en, hen]
    rw [advanceGenerator, if_pos hen, tickGeneratorTimes_add, advanceGenerator, if_pos hm,
      advanceGenerator, if_pos hen]

theorem advanceGenerator_succ (n : Nat) {g : Generator} (hen : g.en = true) :
    advanceGenerator (n + 1) g = tickGenerator (advanceGenerator n g) := by
  rw [advanceGenerator_add, advanceGenerator_one (by rw [advanceGenerator_en, hen])]

/-! The output -/

theorem genOut_off {g : Generator} (hen : g.en = false) : genOut g = false := by
  simp [genOut, hen]

theorem genOut_on {g : Generator} (hen : g.en = true) :
    genOut g = decide (g.gc.toNat < g.compare.toNat) := by
  simp [genOut, hen, BitVec.lt_def]

/-! The frame -/

/-- The counters of a generator that has made `n` source ticks since GC = GP = 0: GP counts to the
prescaler's ratio, GC counts the prescaled ticks of its frame. -/
def Generator.CountersAt (n : Nat) (g : Generator) : Prop :=
  g.gp = n % ratioTicks g.ratio ∧ g.gc.toNat = n / ratioTicks g.ratio % (g.period.toNat + 1)

/-- A remainder that is not the last grows by one, and the quotient stays. -/
theorem succ_div_mod_of_ne {n r : Nat} (hr : 0 < r) (h : n % r + 1 ≠ r) :
    (n + 1) / r = n / r ∧ (n + 1) % r = n % r + 1 := by
  have hlt := Nat.mod_lt n hr
  have hsum := Nat.mod_add_div n r
  exact (Nat.div_mod_unique hr).2 ⟨by omega, by omega⟩

/-- Past the last remainder comes 0, and the quotient grows. -/
theorem succ_div_mod_of_eq {n r : Nat} (hr : 0 < r) (h : n % r + 1 = r) :
    (n + 1) / r = n / r + 1 ∧ (n + 1) % r = 0 := by
  have hsum := Nat.mod_add_div n r
  exact (Nat.div_mod_unique hr).2 ⟨by rw [Nat.mul_succ]; omega, hr⟩

/-- GC after a prescaled tick, in closed form. -/
theorem nextCount_toNat {gc period : Half} {q : Nat} (h : gc.toNat = q % (period.toNat + 1)) :
    (if gc = period then 0 else gc + 1).toNat = (q + 1) % (period.toNat + 1) := by
  have hpos : 0 < period.toNat + 1 := Nat.succ_pos _
  split
  · rename_i heq
    subst heq
    exact (succ_div_mod_of_eq hpos (by omega)).2.symm
  · rename_i hne
    have hne' : gc.toNat ≠ period.toNat := fun heq => hne (BitVec.eq_of_toNat_eq heq)
    have hlt := Nat.mod_lt q hpos
    have hbound : period.toNat < 2 ^ 16 := period.isLt
    rw [(succ_div_mod_of_ne hpos (by omega)).2, BitVec.toNat_add, ← h]
    exact Nat.mod_eq_of_lt (show gc.toNat + 1 < 2 ^ 16 by omega)

theorem tickGenerator_countersAt {n : Nat} {g : Generator} (hen : g.en = true) (h : g.CountersAt n) :
    (tickGenerator g).CountersAt (n + 1) := by
  obtain ⟨hgp, hgc⟩ := h
  have hr := ratioTicks_pos g.ratio
  by_cases hlast : g.gp + 1 = ratioTicks g.ratio
  · rw [tickGenerator_wrap hen hlast]
    obtain ⟨hdiv, hmod⟩ := succ_div_mod_of_eq hr (hgp ▸ hlast)
    exact ⟨hmod.symm, by dsimp only; rw [hdiv]; exact nextCount_toNat hgc⟩
  · rw [tickGenerator_count hen hlast]
    obtain ⟨hdiv, hmod⟩ := succ_div_mod_of_ne hr (hgp ▸ hlast)
    exact ⟨by dsimp only; rw [hmod, hgp], by dsimp only; rw [hdiv]; exact hgc⟩

theorem advanceGenerator_countersAt {g : Generator} (hen : g.en = true) (hgc : g.gc = 0) (hgp : g.gp = 0)
    (n : Nat) : (advanceGenerator n g).CountersAt n := by
  induction n with
  | zero => simp [Generator.CountersAt, advanceGenerator, tickGeneratorTimes, hgc, hgp]
  | succ n ih =>
    rw [advanceGenerator_succ n hen]
    exact tickGenerator_countersAt (by rw [advanceGenerator_en, hen]) ih

/-- The output of a generator after `n` source ticks from GC = GP = 0. -/
theorem genOut_advanceGenerator {g : Generator} (hen : g.en = true) (hgc : g.gc = 0) (hgp : g.gp = 0)
    (n : Nat) :
    genOut (advanceGenerator n g) =
      decide (n / ratioTicks g.ratio % (g.period.toNat + 1) < g.compare.toNat) := by
  obtain ⟨-, hcount⟩ := advanceGenerator_countersAt hen hgc hgp n
  rw [genOut_on (by rw [advanceGenerator_en, hen]), hcount, advanceGenerator_ratio,
    advanceGenerator_period, advanceGenerator_compare]

/-- Settles O17. -/
theorem generatorFrames : Obligations.GeneratorFrames := by
  refine fun g => ⟨fun hoff => ⟨genOut_off hoff, fun n => advanceGenerator_off hoff⟩, fun hen =>
    ⟨by simp [genOut, hen], fun hlast => ?wrap, fun hmore => ?count, fun m n => advanceGenerator_add m n g,
      fun hgc hgp n => ?frame⟩⟩
  case wrap => rw [advanceGenerator_one hen, tickGenerator_wrap hen hlast]
  case count => rw [advanceGenerator_one hen, tickGenerator_count hen hmore]
  case frame =>
    obtain ⟨hpre, hcount⟩ := advanceGenerator_countersAt hen hgc hgp n
    rw [advanceGenerator_ratio] at hpre hcount
    rw [advanceGenerator_period] at hcount
    exact ⟨hpre, hcount, by rw [genOut_advanceGenerator hen hgc hgp, decide_eq_true_iff]⟩

/-! The pin -/

theorem pinDrive_pwmOut {s : State} (h : s.pin.func = .pwmOut) : pinDrive s = .drives (genOut s.gen) := by
  simp [pinDrive, h]

theorem pinDrive_digitalOut {s : State} (h : s.pin.func = .digitalOut) :
    pinDrive s = .drives s.pin.latch := by
  simp [pinDrive, h]

/-- An input leaves the pin at high impedance (R45). -/
theorem pinDrive_input {s : State} (h : s.pin.func = .digitalIn ∨ s.pin.func = .captureIn) :
    pinDrive s = .highZ := by
  rcases h with h | h <;> simp [pinDrive, h]

/-- Settles O23. -/
theorem pinDriverFollowsFunction : Obligations.PinDriverFollowsFunction :=
  fun _ => ⟨pinDrive_input, pinDrive_digitalOut, pinDrive_pwmOut⟩

/-! The commanded waveform -/

theorem exec_pulse_of_inRange {f d : Nat} (h1 : 1 ≤ f) (hf : f ≤ 16000) (hd : d ≤ 100) (s : State) :
    exec (.pulse f d) s = .next (enablePulse f d s) := by
  rw [exec, execPulse, if_neg (by omega), if_pos ((pulseInRange_iff h1).2 ⟨hf, hd⟩)]

theorem exec_servo_of_inRange {a : Nat} (ha : a ≤ 180) (s : State) :
    exec (.servo a) s = .next (enableServo (servoPrescaler s.params.servoRatio) a s) := by
  rw [exec, execServo, if_pos (servoInRange_iff.2 ha)]

/-- The pin of a generator just started, `n` source ticks later. -/
theorem pinDrive_of_started {t : State} {r : Ratio} {k : GenKind} {period compare : Nat}
    (hgen : t.gen = (startGenerator r k period compare t).gen) (hpin : t.pin.func = .pwmOut)
    (hperiod : period < 2 ^ 16) (hcompare : compare < 2 ^ 16) (n : Nat) :
    pinDrive (passTicks n t) = .drives (decide (n / ratioTicks r % (period + 1) < compare)) := by
  rw [pinDrive_pwmOut (by rw [passTicks_pin, hpin]), passTicks_gen, hgen, startGenerator_gen,
    genOut_advanceGenerator rfl rfl rfl]
  simp only [BitVec.toNat_ofNat, Nat.mod_eq_of_lt hperiod, Nat.mod_eq_of_lt hcompare]

/-- Settles O18: both commands start the generator at GC = GP = 0, whatever it did before. -/
theorem commandedWaveform : Obligations.CommandedWaveform := by
  refine fun s n => ⟨fun f d h1 hf hd => ⟨_, exec_pulse_of_inRange h1 hf hd s, ?pulse⟩,
    fun a ha => ⟨_, exec_servo_of_inRange ha s, ?servo⟩⟩
  case pulse =>
    have hperiod := pulsePeriod_le h1
    have hduty := pulseDuty_le (f := f) hd
    have hquot : bandDivisor f / f = pulsePeriod f + 1 :=
      (Nat.sub_add_cancel (Nat.pos_of_ne_zero ((bandQuotient_pos h1).2 hf))).symm
    rw [pinDrive_of_started (r := bandRatio f) (k := .pulse) (period := pulsePeriod f)
      (compare := pulseDuty f d) rfl rfl (by omega) (by omega), hquot]
    rfl
  case servo =>
    have hcompare := servoDuty_le ha
    have hform : 5 * a / 14 + 62 = servoDuty a := by unfold servoDuty servoPeriod; omega
    rw [pinDrive_of_started (r := servoPrescaler s.params.servoRatio) (k := .servo)
      (period := servoPeriod) (compare := servoDuty a) rfl rfl (by decide) (by omega), hform]
    rfl

end Sys2Proof.Machine
end

section
/-! The register window (10_state.md R24 to R41, 20_memory.md R60 to R63): where its registers stand, and
the fields their words hold. -/

namespace Sys2Proof.Machine

/-! Offsets and accesses -/

theorem regAt_eq_some_iff (off : Nat) (r : Reg) : regAt off = some r ↔ regOffset r = off :=
  ⟨regOffset_of_regAt, fun h => h ▸ regAt_regOffset r⟩

theorem regOffset_aligned (r : Reg) : regOffset r % 4 = 0 := by cases r <;> rfl

/-- Every aligned offset of the window holds a register (R24). -/
theorem regAt_isSome_of_aligned : ∀ k < 16, (regAt (4 * k)).isSome = true := by decide

theorem exists_regAt_iff (off : Nat) : (∃ r, regAt off = some r) ↔ off < 64 ∧ off % 4 = 0 := by
  constructor
  · rintro ⟨r, hr⟩
    rw [← regOffset_of_regAt hr]
    exact ⟨regOffset_lt r, regOffset_aligned r⟩
  · rintro ⟨hlt, hal⟩
    have hoff : off = 4 * (off / 4) := by omega
    rw [hoff]
    exact Option.isSome_iff_exists.1 (regAt_isSome_of_aligned (off / 4) (by omega))

/-- Inside the window a narrow, wide or misaligned access selects nothing (20_memory.md R63, log 14). -/
theorem selectReg_busError {off width : Nat} (base : Nat) (hoff : off < 64)
    (hbad : width ≠ 4 ∨ off % 4 ≠ 0) :
    selectReg base (base + off) width = .error (.fault .busError) := by
  have hin : ¬(base + off < base ∨ base + windowBytes ≤ base + off) := by
    have hsize : windowBytes = 64 := rfl
    omega
  rw [selectReg, if_neg hin, Nat.add_sub_cancel_left]
  by_cases hwidth : width = 4
  · have hnone : regAt off = none := by
      refine Option.eq_none_iff_forall_ne_some.2 fun r hr => ?_
      have hal := ((exists_regAt_iff off).1 ⟨r, hr⟩).2
      omega
    rw [if_pos hwidth, hnone]
  · rw [if_neg hwidth]

/-- Settles O45. -/
theorem misalignedOrNarrowAccessIsBusError : Obligations.MisalignedOrNarrowAccessIsBusError := by
  refine ⟨rfl, exists_regAt_iff, regAt_eq_some_iff, fun s rest off width hoff hbad =>
    ⟨fun hi => ?read, fun v hi => ?write⟩⟩
  all_goals
    rw [step_input hi]
    simp only [consume, busAccess, selectReg_busError _ hoff hbad]

/-! STATUS (R26) -/

theorem statusWord_busy (st : Status) : (statusWord st).getLsbD 0 = st.busy := by
  rw [statusWord_getLsbD]; simp
theorem statusWord_done (st : Status) : (statusWord st).getLsbD 1 = st.done := by
  rw [statusWord_getLsbD]; simp
theorem statusWord_mode (st : Status) : (statusWord st).getLsbD 2 = decide (st.mode = .pwm) := by
  rw [statusWord_getLsbD]; cases st.mode <;> simp [modeBit]
theorem statusWord_autorange (st : Status) : (statusWord st).getLsbD 3 = st.autorange := by
  rw [statusWord_getLsbD]; simp
theorem statusWord_eIllegal (st : Status) : (statusWord st).getLsbD 16 = st.eIllegal := by
  rw [statusWord_getLsbD]; simp
theorem statusWord_eRange (st : Status) : (statusWord st).getLsbD 17 = st.eRange := by
  rw [statusWord_getLsbD]; simp
theorem statusWord_eBusy (st : Status) : (statusWord st).getLsbD 18 = st.eBusy := by
  rw [statusWord_getLsbD]; simp
theorem statusWord_ePrecond (st : Status) : (statusWord st).getLsbD 19 = st.ePrecond := by
  rw [statusWord_getLsbD]; simp
theorem statusWord_eArith (st : Status) : (statusWord st).getLsbD 20 = st.eArith := by
  rw [statusWord_getLsbD]; simp

/-- The CODE field of the STATUS word. -/
theorem statusWord_code (st : Status) : (statusWord st).extractLsb' 8 8 = codeByte st.code := by
  refine BitVec.eq_of_getLsbD_eq fun i hi => ?_
  rw [BitVec.getLsbD_extractLsb', statusWord_getLsbD]
  interval_cases i <;> simp

/-- The bits of STATUS that a host write of 1 clears: DONE and the five sticky bits. -/
def clearable (b : Nat) : Bool := b == 1 || (decide (16 ≤ b) && decide (b ≤ 20))

/-- A host write to STATUS, bit by bit (R26). -/
theorem clearStatus_getLsbD (v : Word) (st : Status) {b : Nat} (hb : b < 32) :
    (statusWord (clearStatus v st)).getLsbD b =
      ((statusWord st).getLsbD b && !(v.getLsbD b && clearable b)) := by
  rw [statusWord_getLsbD, statusWord_getLsbD]
  interval_cases b <;> simp [clearable]

/-- The codes of 60_exceptions.md R231. -/
theorem codeByte_mem (c : Code) :
    (c, codeByte c) ∈
      [(Code.none, 0x00), (.pwmDisabled, 0x01), (.pwmEnabled, 0x02), (.servoEnabled, 0x03),
        (.tooLow, 0x04), (.modeConflict, 0x05), (.measured, 0x06), (.hizSet, 0x07),
        (.drivenHigh, 0x08), (.drivenLow, 0x09), (.pinLevel, 0x0A), (.illegal, 0x80), (.range, 0x81),
        (.precond, 0x82), (.arith, 0x83)] := by
  cases c <;> decide

theorem step_wr {s : State} {rest : List Input} {r : Reg} {v : Word}
    (hi : s.inputs = wr s.params r v :: rest) :
    step s = writeReg r v { s with inputs := rest } :=
  (step_input hi).trans (consume_wr r v { s with inputs := rest })

theorem extract_eq_zero {w : Word} {lo len : Nat}
    (h : ∀ i < len, w.getLsbD (lo + i) = false) : w.extractLsb' lo len = 0 := by
  refine BitVec.eq_of_getLsbD_eq fun i hi => ?_
  simp [BitVec.getLsbD_extractLsb', h i hi]

/-- Settles O42. -/
theorem statusLayoutAndClear : Obligations.StatusLayoutAndClear := by
  refine ⟨fun st => ⟨statusWord_busy st, statusWord_done st, statusWord_mode st, statusWord_autorange st,
    ?low, statusWord_code st, ?code, statusWord_eIllegal st, statusWord_eRange st, statusWord_eBusy st,
    statusWord_ePrecond st, statusWord_eArith st, ?high⟩,
    fun s rest v hi => ⟨_, step_wr hi, rfl, fun b hb => clearStatus_getLsbD v s.status hb⟩⟩
  case low =>
    refine extract_eq_zero fun i hi => ?_
    rw [statusWord_getLsbD]
    interval_cases i <;> simp
  case high =>
    refine extract_eq_zero fun i hi => ?_
    rw [statusWord_getLsbD]
    interval_cases i <;> simp
  case code => rw [statusWord_code]; exact codeByte_mem st.code

end Sys2Proof.Machine
end

section
/-! The fields of the register words (10_state.md R33 to R41): a field reads back from its own bits, and a
word has no bits but those of its fields. -/

namespace Sys2Proof.Machine

/-! Fields placed in a word -/

theorem getLsbD_place_add {n lo i : Nat} (v : BitVec n) (hlo : lo + n ≤ 32) :
    (place v lo).getLsbD (lo + i) = v.getLsbD i := by
  rw [getLsbD_place, Nat.add_sub_cancel_left]
  by_cases hi : i < n
  · simp [show lo + i < 32 by omega]
  · simp [BitVec.getLsbD_of_ge v i (by omega)]

/-- A field read at its own bits. -/
theorem place_extract_same {n lo : Nat} (v : BitVec n) (hlo : lo + n ≤ 32) :
    (place v lo).extractLsb' lo n = v := by
  refine BitVec.eq_of_getLsbD_eq fun i hi => ?_
  rw [BitVec.getLsbD_extractLsb', getLsbD_place_add v hlo]
  simp [hi]

/-- A field reads 0 at bits that are another field's. -/
theorem place_extract_other {n lo lo' len : Nat} (v : BitVec n) (h : lo' + len ≤ lo ∨ lo + n ≤ lo') :
    (place v lo).extractLsb' lo' len = 0 := by
  refine extract_eq_zero fun i hi => ?_
  rw [getLsbD_place]
  rcases h with hbelow | habove
  · simp [show lo' + i < lo by omega]
  · simp [BitVec.getLsbD_of_ge v (lo' + i - lo) (by omega)]

/-- A field has no bit in a mask that is 0 at the field. -/
theorem place_and_eq_zero {n lo : Nat} (v : BitVec n) {m : Word} (h : m.extractLsb' lo n = 0) :
    place v lo &&& m = 0 := by
  refine BitVec.eq_of_getLsbD_eq fun b hb => ?_
  have hzero : (0 : Word).getLsbD b = false := BitVec.getLsbD_zero
  rw [BitVec.getLsbD_and, getLsbD_place, hzero]
  by_cases hlo : b < lo
  · simp [hlo]
  by_cases hin : b - lo < n
  · have hbit : (m.extractLsb' lo n).getLsbD (b - lo) = m.getLsbD b := by
      rw [BitVec.getLsbD_extractLsb', Nat.add_sub_cancel' (by omega)]
      simp [hin]
    simp [← hbit, h]
  · simp [BitVec.getLsbD_of_ge v (b - lo) (by omega)]

theorem placeBit_and_eq_zero {lo : Nat} (v : Bool) {m : Word} (h : m.extractLsb' lo 1 = 0) :
    placeBit v lo &&& m = 0 := place_and_eq_zero _ h

theorem placeBit_extract_other {lo lo' len : Nat} (v : Bool) (h : lo' + len ≤ lo ∨ lo + 1 ≤ lo') :
    (placeBit v lo).extractLsb' lo' len = 0 := place_extract_other _ h

theorem or_and_eq_zero {x y m : Word} (hx : x &&& m = 0) (hy : y &&& m = 0) : (x ||| y) &&& m = 0 := by
  rw [BitVec.and_or_distrib_right, hx, hy]
  rfl

theorem setWidth_eq_place {n : Nat} (v : BitVec n) : v.setWidth 32 = place v 0 := by simp [place]

/-! The words -/

theorem pcfgWord_freq (p : PulseConfig) : (pcfgWord p).extractLsb' 0 16 = p.freq := by
  simp (disch := decide) [pcfgWord, BitVec.extractLsb'_or, place_extract_same, place_extract_other]

theorem pcfgWord_duty (p : PulseConfig) : (pcfgWord p).extractLsb' 16 8 = p.duty := by
  simp (disch := decide) [pcfgWord, BitVec.extractLsb'_or, place_extract_same, place_extract_other]

theorem pcfgWord_angle (p : PulseConfig) : (pcfgWord p).extractLsb' 24 8 = p.angle := by
  simp (disch := decide) [pcfgWord, BitVec.extractLsb'_or, place_extract_same, place_extract_other]

theorem genCfgWord_ratio (g : Generator) : (genCfgWord g).extractLsb' 0 2 = ratioCode g.ratio := by
  simp (disch := decide) [genCfgWord, BitVec.extractLsb'_or, place_extract_same, place_extract_other,
    placeBit_extract_other]

theorem genCfgWord_kind (g : Generator) : (genCfgWord g).extractLsb' 12 2 = kindCode g.kind := by
  simp (disch := decide) [genCfgWord, BitVec.extractLsb'_or, place_extract_same, place_extract_other,
    placeBit_extract_other]

theorem genCfgWord_en (g : Generator) : (genCfgWord g).getLsbD 8 = g.en := by
  rw [genCfgWord, BitVec.getLsbD_or, BitVec.getLsbD_or, getLsbD_placeBit, getLsbD_place, getLsbD_place]
  simp

theorem pinWord_func (p : Pin) : (pinWord p).extractLsb' 0 2 = funcCode p.func := by
  simp (disch := decide) [pinWord, BitVec.extractLsb'_or, place_extract_same, placeBit_extract_other]

theorem pinWord_latch (p : Pin) : (pinWord p).getLsbD 4 = p.latch := by
  rw [pinWord, BitVec.getLsbD_or, getLsbD_placeBit, getLsbD_place]
  simp

theorem ratioCode_mem (r : Ratio) :
    (r, ratioCode r) ∈ [(Ratio.r1, 0), (.r8, 1), (.r64, 2), (.r256, 3)] := by
  cases r <;> decide

theorem kindCode_mem (k : GenKind) : (k, kindCode k) ∈ [(GenKind.none, 0), (.pulse, 1), (.servo, 2)] := by
  cases k <;> decide

theorem funcCode_mem (f : PinFunc) :
    (f, funcCode f) ∈ [(PinFunc.digitalIn, 0), (.digitalOut, 1), (.pwmOut, 2), (.captureIn, 3)] := by
  cases f <;> decide

theorem statusWord_reserved (st : Status) : statusWord st &&& 0xFFE000F0 = 0 := by
  simp only [statusWord, BitVec.and_or_distrib_right]
  simp (disch := decide) only [placeBit_and_eq_zero, place_and_eq_zero]
  rfl

theorem genCfgWord_reserved (g : Generator) : genCfgWord g &&& 0xFFFFCEFC = 0 :=
  or_and_eq_zero
    (or_and_eq_zero (place_and_eq_zero _ (by decide)) (placeBit_and_eq_zero _ (by decide)))
    (place_and_eq_zero _ (by decide))

theorem pinWord_reserved (p : Pin) : pinWord p &&& 0xFFFFFFEC = 0 :=
  or_and_eq_zero (place_and_eq_zero _ (by decide)) (placeBit_and_eq_zero _ (by decide))

/-- A register of one field at bit 0. -/
theorem setWidth_extract_same {n : Nat} (v : BitVec n) (h : n ≤ 32) :
    (v.setWidth 32).extractLsb' 0 n = v := by
  rw [setWidth_eq_place, place_extract_same v (by omega)]

theorem setWidth_reserved {n : Nat} (v : BitVec n) {m : Word} (h : m.extractLsb' 0 n = 0) :
    v.setWidth 32 &&& m = 0 := by
  rw [setWidth_eq_place, place_and_eq_zero v h]

/-- Settles O43. -/
theorem everyRegisterReadsItsFields : Obligations.EveryRegisterReadsItsFields := by
  intro s
  refine ⟨rfl, rfl, rfl, rfl, setWidth_extract_same _ (by decide), pcfgWord_freq s.pcfg,
    pcfgWord_duty s.pcfg, pcfgWord_angle s.pcfg, ?ratio, genCfgWord_en s.gen, ?kind,
    setWidth_extract_same _ (by decide), setWidth_extract_same _ (by decide), ?func,
    pinWord_latch s.pin, rfl, rfl, rfl, rfl, rfl, rfl, statusWord_reserved s.status,
    setWidth_reserved _ (by decide), genCfgWord_reserved s.gen, setWidth_reserved _ (by decide),
    setWidth_reserved _ (by decide), pinWord_reserved s.pin⟩
  case ratio => rw [readReg, genCfgWord_ratio]; exact ratioCode_mem s.gen.ratio
  case kind => rw [readReg, genCfgWord_kind]; exact kindCode_mem s.gen.kind
  case func => rw [readReg, pinWord_func]; exact funcCode_mem s.pin.func

end Sys2Proof.Machine
end

section
/-! Completions (10_state.md R28 to R34, 40_controller.md R103 to R106): a step completes a command or
leaves the completion's fields alone; which command changes MODE, RESULT, CMD and AUTORANGE. -/

namespace Sys2Proof.Machine

/-! A completion, and a change that is none -/

/-- What `complete` leaves (40_controller.md R103). -/
abbrev State.completed (t : State) : Prop :=
  t.status.busy = false ∧ t.status.done = true ∧ t.seq = .idle

/-- A command that runs, or one that the block accepts in this step, whose oldest input is off already:
`State.mayComplete` for the two states of a `Change`. -/
abbrev endsCommand (s0 s : State) : Prop :=
  s.seq ≠ .idle ∨ ∃ w, s0.inputs = cmdWrite s.params w :: s.inputs ∧ s.status.busy = false

theorem mayComplete_of_endsCommand {s : State} {rest : List Input}
    (h : endsCommand s { s with inputs := rest }) : s.mayComplete := by
  rcases h with hseq | ⟨w, hi, hb⟩
  · exact .inl hseq
  · exact .inr ⟨w, rest, hi, hb⟩

/-- `t` comes after `s` without a completion. -/
structure State.GoesOn (s t : State) : Prop where
  code : t.status.code = s.status.code
  result : t.result = s.result
  busy : s.status.busy = true → t.status.busy = true
  done : t.status.done = true → s.status.done = true
  seq : s.seq ≠ .idle → t.seq ≠ .idle

/-- Every change completes a command or leaves the fields of a completion as they were. -/
theorem change_completes_or_goesOn {s0 s t : State} (h : Change s0 s t) :
    endsCommand s0 s ∧ t.completed ∨ s.GoesOn t := by
  cases h with
  | ticks | edges | line | read | nothing | refuse | interval => exact .inr ⟨rfl, rfl, id, id, id⟩
  | clear v => exact .inr ⟨rfl, rfl, id, fun h => (Bool.and_eq_true_iff.1 h).1, id⟩
  | rearm | startAverager | baseline => exact .inr ⟨rfl, rfl, id, id, fun _ h => (by cases h)⟩
  | start => exact .inr ⟨rfl, rfl, fun _ => rfl, fun h => (by cases h), fun _ h => (by cases h)⟩
  | exitOk _ _ _ _ _ _ _ _ _ hseq => exact .inl ⟨.inl hseq, rfl, rfl, rfl⟩
  | exitFail _ _ _ hseq => exact .inl ⟨.inl hseq, rfl, rfl, rfl⟩
  | failed w _ hi hb | disable w _ _ hi hb | enable w _ _ hi hb | servo w _ hi hb | conflict w hi hb
  | sample w hi hb | drive w _ hi hb | release w hi hb =>
    exact .inl ⟨.inr ⟨w, hi, hb⟩, rfl, rfl, rfl⟩

theorem step_completes_or_goesOn {s t : State} (h : step s = .next t)
    (hreset : ∀ rest, s.inputs ≠ .reset :: rest) : s.mayComplete ∧ t.completed ∨ s.GoesOn t := by
  rcases step_change h with ⟨rest, hi, -⟩ | ⟨-, rest, hchange⟩
  · exact absurd hi (hreset rest)
  · rcases change_completes_or_goesOn hchange with ⟨hends, hdone⟩ | ⟨hcode, hresult, hbusy, hd, hseq⟩
    · exact .inl ⟨mayComplete_of_endsCommand hends, hdone⟩
    · exact .inr ⟨hcode, hresult, hbusy, hd, hseq⟩

/-- Settles O48. -/
theorem codeChangesOnlyAtCompletion : Obligations.CodeChangesOnlyAtCompletion := by
  intro s t h hne
  by_cases hreset : ∃ rest, s.inputs = .reset :: rest
  · exact .inr hreset
  · rcases step_completes_or_goesOn h (not_exists.1 hreset) with hdone | hon
    · exact .inl hdone
    · exact absurd hon.code hne

/-! RESULT (R34) -/

theorem change_result {s0 s t : State} (h : Change s0 s t) (hne : t.result ≠ s.result) :
    t.status.code = .measured ∨ t.status.code = .tooLow ∨ t.status.code = .pinLevel := by
  cases h with
  | exitOk c _ _ _ _ _ _ hc =>
    rcases hc with hmeasured | hlow
    · exact .inl hmeasured
    · exact .inr (.inl hlow)
  | sample => exact .inr (.inr rfl)
  | _ => exact absurd rfl hne

/-- Settles O51. -/
theorem resultChangesOnlyAtItsCompletions : Obligations.ResultChangesOnlyAtItsCompletions := by
  intro s t h hne
  rcases step_change h with ⟨rest, hi, -⟩ | ⟨hreset, rest, hchange⟩
  · exact .inr ⟨rest, hi⟩
  · rcases step_completes_or_goesOn h hreset with ⟨hmay, hbusy, hdone, hseq⟩ | hon
    · exact .inl ⟨hmay, hbusy, hdone, hseq, change_result hchange hne⟩
    · exact absurd hon.result hne

/-! MODE (R31) -/

theorem change_mode {s0 s t : State} (h : Change s0 s t) (hne : t.status.mode ≠ s.status.mode) :
    ∃ w, s0.inputs = cmdWrite s.params w :: s.inputs ∧ s.status.busy = false
      ∧ ((∃ f d, decode w = .ok (.pulse f d)) ∨ ∃ a, decode w = .ok (.servo a)) := by
  cases h with
  | disable w f d hi hb hd => exact ⟨w, hi, hb, .inl ⟨f, d, hd⟩⟩
  | enable w f d hi hb hd => exact ⟨w, hi, hb, .inl ⟨f, d, hd⟩⟩
  | servo w a hi hb hd => exact ⟨w, hi, hb, .inr ⟨a, hd⟩⟩
  | failed => exact absurd (by simp) hne
  | _ => exact absurd rfl hne

/-- Settles O49. -/
theorem modeChangesOnlyByGeneratorCommands : Obligations.ModeChangesOnlyByGeneratorCommands := by
  intro s t h hne
  rcases step_change h with ⟨rest, hi, -⟩ | ⟨-, rest, hchange⟩
  · exact ⟨rest, .inl hi⟩
  · obtain ⟨w, hi, hb, hd⟩ := change_mode hchange hne
    exact ⟨rest, .inr ⟨w, ⟨hi, hb⟩, hd⟩⟩

/-! Reset (R47, 70_reset_and_hazards.md R260) -/

theorem reset_atResetValues : State.reset.atResetValues := by decide

theorem step_reset {s : State} {rest : List Input} (hi : s.inputs = .reset :: rest) :
    step s = .next (resetEvent { s with inputs := rest }) := step_input hi

/-- A command that stops running without a reset has completed (R105). -/
theorem step_ends_by_completion {s t : State} (hb : s.status.busy = true) (h : step s = .next t)
    (ht : t.status.busy = false) (hreset : ∀ rest, s.inputs ≠ .reset :: rest) :
    t.status.done = true ∧ t.seq = .idle := by
  rcases step_completes_or_goesOn h hreset with ⟨-, -, hdone, hseq⟩ | hon
  · exact ⟨hdone, hseq⟩
  · simp [hon.busy hb] at ht

/-- Settles O54. -/
theorem resetRestoresEverything : Obligations.ResetRestoresEverything :=
  ⟨reset_atResetValues, fun _ _ hi => ⟨_, step_reset hi, reset_atResetValues, rfl, rfl⟩,
    fun _ _ => step_ends_by_completion⟩

/-! CMD, DONE and AUTORANGE (R25, R28, R29) -/

theorem change_cmd {s0 s t : State} (h : Change s0 s t) (hne : t.cmd ≠ s.cmd) :
    ∃ w, s0.inputs = cmdWrite s.params w :: s.inputs ∧ s.status.busy = false := by
  cases h with
  | failed w _ hi hb | disable w _ _ hi hb | enable w _ _ hi hb | servo w _ hi hb | conflict w hi hb
  | start w hi hb | sample w hi hb | drive w _ hi hb | release w hi hb => exact ⟨w, hi, hb⟩
  | _ => exact absurd rfl hne

/-- An accepted command keeps CMD, and has completed unless it is a MEASURE that started (R104). -/
theorem exec_completes_or_starts {i : Instr} {s t : State} (h : exec i s = .next t) :
    t.cmd = s.cmd ∧ (t.completed ∨ t.seq = .gate1) := by
  cases i with
  | pulse f d =>
    rcases execPulse_cases h with ⟨-, rfl⟩ | ⟨-, -, -, rfl⟩ | ⟨-, -, rfl⟩ <;>
      exact ⟨rfl, .inl ⟨rfl, rfl, rfl⟩⟩
  | servo a => rcases execServo_cases h with ⟨-, rfl⟩ | ⟨-, rfl⟩ <;> exact ⟨rfl, .inl ⟨rfl, rfl, rfl⟩⟩
  | measure =>
    rcases execMeasure_cases h with ⟨-, rfl⟩ | ⟨-, rfl⟩
    · exact ⟨rfl, .inl ⟨rfl, rfl, rfl⟩⟩
    · exact ⟨rfl, .inr rfl⟩
  | read | drive | hiz =>
    rcases inIoMode_cases h with ⟨-, rfl⟩ | ⟨-, rfl⟩ <;> exact ⟨rfl, .inl ⟨rfl, rfl, rfl⟩⟩

theorem step_accepts {s t : State} {w : Word} {rest : List Input} (ha : s.acceptsNext w rest)
    (h : step s = .next t) : t.cmd = w ∧ (t.completed ∨ t.seq = .gate1) := by
  rw [step_accepted ha.1 ha.2, runWord] at h
  split at h
  · exact exec_completes_or_starts h
  · cases h
    exact ⟨rfl, .inl ⟨rfl, rfl, rfl⟩⟩

/-- A step that can end a command and leaves the sequencer idle has ended one. -/
theorem step_done_of_idle {s t : State} (h : step s = .next t)
    (hreset : ∀ rest, s.inputs ≠ .reset :: rest) (hmay : s.mayComplete) (hidle : t.seq = .idle) :
    t.status.done = true := by
  rcases hmay with hseq | ⟨w, rest, ha⟩
  · rcases step_completes_or_goesOn h hreset with ⟨-, -, hdone, -⟩ | hon
    · exact hdone
    · exact absurd hidle (hon.seq hseq)
  · rcases (step_accepts ha h).2 with ⟨-, hdone, -⟩ | hstarted
    · exact hdone
    · cases hidle.symm.trans hstarted

/-- DONE falls by the host's write of 1, or where a MEASURE starts. -/
theorem change_done_falls {s0 s t : State} (h : Change s0 s t) (hs : s.status.done = true)
    (ht : t.status.done = false) :
    (∃ v, s0.inputs = wr s.params .status v :: s.inputs ∧ v.getLsbD 1 = true)
      ∨ ∃ w, s0.inputs = cmdWrite s.params w :: s.inputs ∧ s.status.busy = false
        ∧ decode w = .ok .measure ∧ s.status.mode = .io := by
  cases h with
  | clear v hi => exact .inl ⟨v, hi, by simpa [hs] using ht⟩
  | start w hi hb hd hmode => exact .inr ⟨w, hi, hb, hd, hmode⟩
  | exitOk | exitFail | failed | disable | enable | servo | conflict | sample | drive | release =>
    cases ht
  | _ => cases hs.symm.trans ht

/-- AUTORANGE rises where the first gate pass re-arms (42_measure.md R165). -/
theorem change_autorange_rises {s0 s t : State} (h : Change s0 s t) (hs : s.status.autorange = false)
    (ht : t.status.autorange = true) :
    s.seq = .gate1 ∧ s.gate.expired = true ∧ s.gate.count.toNat ≤ 0x3FFF ∧ t.seq = .gate2
      ∧ t.gate.ratio = .r1 := by
  cases h with
  | rearm hseq hexp hcount => exact ⟨hseq, hexp, hcount, rfl, rfl⟩
  | start => cases ht
  | failed => simp [hs] at ht
  | _ => cases hs.symm.trans ht

/-- AUTORANGE falls where a MEASURE starts (R163). -/
theorem change_autorange_falls {s0 s t : State} (h : Change s0 s t) (hs : s.status.autorange = true)
    (ht : t.status.autorange = false) :
    ∃ w, s0.inputs = cmdWrite s.params w :: s.inputs ∧ s.status.busy = false
      ∧ decode w = .ok .measure ∧ s.status.mode = .io := by
  cases h with
  | start w hi hb hd hmode => exact ⟨w, hi, hb, hd, hmode⟩
  | rearm => cases ht
  | failed => simp [hs] at ht
  | _ => cases hs.symm.trans ht

/-- Settles O60: each field's changes from the list of all changes, the accepted word from the step that
runs it. -/
theorem cmdDoneAndAutorangeChangeByTheirRules : Obligations.CmdDoneAndAutorangeChangeByTheirRules := by
  refine fun s t h => ⟨fun hreset => ?_, fun rest hi => ?reset⟩
  case reset =>
    cases (step_reset hi).symm.trans h
    exact ⟨rfl, rfl, rfl⟩
  rcases step_change h with ⟨rest, hi, -⟩ | ⟨-, rest, hchange⟩
  · exact absurd hi (hreset rest)
  refine ⟨fun hne => ?cmd, fun w rest ha => (step_accepts ha h).1, fun hs ht => ?doneRises,
    step_done_of_idle h hreset, fun hs ht => ?doneFalls,
    fun hs ht => ?autorangeRises, fun hs ht => ?autorangeFalls⟩
  case cmd =>
    obtain ⟨w, hi, hb⟩ := change_cmd hchange hne
    exact ⟨w, rest, hi, hb⟩
  case doneRises =>
    rcases step_completes_or_goesOn h hreset with ⟨hmay, hbusy, -, hseq⟩ | hon
    · exact ⟨hmay, hbusy, hseq⟩
    · simp [hon.done ht] at hs
  case doneFalls =>
    rcases change_done_falls hchange hs ht with ⟨v, hi, hv⟩ | ⟨w, hi, hb, hd, hmode⟩
    · exact .inl ⟨v, rest, hi, hv⟩
    · exact .inr ⟨w, rest, ⟨hi, hb⟩, hd, hmode⟩
  case autorangeRises => exact (change_autorange_rises hchange hs ht :)
  case autorangeFalls =>
    obtain ⟨w, hi, hb, hd, hmode⟩ := change_autorange_falls hchange hs ht
    exact ⟨w, rest, ⟨hi, hb⟩, hd, hmode⟩

end Sys2Proof.Machine
end

section
/-! The sticky error bits (10_state.md R32, 60_exceptions.md R232): what each update of STATUS does to one
of them, and the four things a change can do. -/

namespace Sys2Proof.Machine

/-! The bits -/

/-- The sticky error bit at position `b` of STATUS. -/
def stickyBit (b : Nat) (st : Status) : Bool :=
  match b with
  | 16 => st.eIllegal
  | 17 => st.eRange
  | 18 => st.eBusy
  | 19 => st.ePrecond
  | 20 => st.eArith
  | _ => false

/-- The position of the bit of an error that ends a command (R232). -/
def errorBit : CmdError → Nat
  | .illegal => 16
  | .range => 17
  | .precond => 19
  | .arith => 20

theorem statusWord_stickyBit {b : Nat} (hlo : 16 ≤ b) (hhi : b ≤ 20) (st : Status) :
    (statusWord st).getLsbD b = stickyBit b st := by
  interval_cases b
  · exact statusWord_eIllegal st
  · exact statusWord_eRange st
  · exact statusWord_eBusy st
  · exact statusWord_ePrecond st
  · exact statusWord_eArith st

theorem stickyBit_acceptStatus (b : Nat) (st : Status) :
    stickyBit b (acceptStatus st) = stickyBit b st := by
  unfold stickyBit; split <;> rfl

theorem stickyBit_completeStatus (b : Nat) (c : Code) (st : Status) :
    stickyBit b (completeStatus c st) = stickyBit b st := by
  unfold stickyBit; split <;> rfl

theorem stickyBit_mode (b : Nat) (m : PinMode) (st : Status) :
    stickyBit b { st with mode := m } = stickyBit b st := by
  unfold stickyBit; split <;> rfl

theorem stickyBit_autorange (b : Nat) (a : Bool) (st : Status) :
    stickyBit b { st with autorange := a } = stickyBit b st := by
  unfold stickyBit; split <;> rfl

theorem stickyBit_setErrorBit (b : Nat) (e : CmdError) (st : Status) :
    stickyBit b (setErrorBit e st) = (stickyBit b st || decide (b = errorBit e)) := by
  unfold stickyBit; split <;> cases e <;> simp_all [setErrorBit, errorBit]

theorem stickyBit_refuse (b : Nat) (st : Status) :
    stickyBit b { st with eBusy := true } = (stickyBit b st || decide (b = 18)) := by
  unfold stickyBit; split <;> simp_all

theorem stickyBit_clearStatus (b : Nat) (v : Word) (st : Status) :
    stickyBit b (clearStatus v st) = (stickyBit b st && !v.getLsbD b) := by
  unfold stickyBit; split <;> simp

/-! A change -/

/-- Why a change raises the bit of an error: an accepted word that fails with it, or, for ARITH, a step of
a running command (R232, R234). -/
abbrev raisesError (e : CmdError) (s0 s : State) : Prop :=
  (∃ w, s0.inputs = cmdWrite s.params w :: s.inputs ∧ s.status.busy = false ∧ failsWith e w s)
    ∨ e = .arith ∧ s.seq ≠ .idle

/-- What a change does to the sticky bit at `b`: nothing; the host's write clears it; a refused CMD write
raises E_BUSY; a failing completion raises its error's bit. -/
inductive StickyChange (b : Nat) (s0 s t : State) : Prop
  | kept : stickyBit b t.status = stickyBit b s.status → StickyChange b s0 s t
  | cleared (v : Word) : s0.inputs = wr s.params .status v :: s.inputs →
      stickyBit b t.status = (stickyBit b s.status && !v.getLsbD b) → StickyChange b s0 s t
  | refused (w : Word) : s0.inputs = cmdWrite s.params w :: s.inputs → s.status.busy = true →
      stickyBit b t.status = (stickyBit b s.status || decide (b = 18)) → StickyChange b s0 s t
  | failed (e : CmdError) : raisesError e s0 s → t.completed → t.status.code = errorCode e →
      stickyBit b t.status = (stickyBit b s.status || decide (b = errorBit e)) → StickyChange b s0 s t

theorem stickyBit_failWith (b : Nat) (e : CmdError) (s : State) :
    stickyBit b (failWith e s).status = (stickyBit b s.status || decide (b = errorBit e)) := by
  rw [failWith_status, stickyBit_completeStatus, stickyBit_setErrorBit]

theorem change_sticky (b : Nat) {s0 s t : State} (h : Change s0 s t) : StickyChange b s0 s t := by
  cases h with
  | clear v hi => exact .cleared v hi (stickyBit_clearStatus b v s.status)
  | refuse w hi hb => exact .refused w hi hb (stickyBit_refuse b s.status)
  | failed w e hi hb hfails =>
    exact .failed e (.inl ⟨w, hi, hb, hfails⟩) ⟨rfl, rfl, rfl⟩ rfl
      (by rw [stickyBit_failWith, accept_status, stickyBit_acceptStatus])
  | exitFail o a cap hseq =>
    exact .failed .arith (.inr ⟨rfl, hseq⟩) ⟨rfl, rfl, rfl⟩ rfl (stickyBit_failWith b .arith _)
  | exitOk => exact .kept (stickyBit_completeStatus b _ _)
  | rearm => exact .kept (stickyBit_autorange b _ _)
  | start => exact .kept ((stickyBit_autorange b _ _).trans (stickyBit_acceptStatus b _))
  | disable | enable | servo =>
    exact .kept ((stickyBit_completeStatus b _ _).trans
      ((stickyBit_mode b _ _).trans (stickyBit_acceptStatus b _)))
  | conflict | sample | drive | release =>
    exact .kept ((stickyBit_completeStatus b _ _).trans (stickyBit_acceptStatus b _))
  | ticks | edges | line | read | nothing | startAverager | baseline | interval => exact .kept rfl

/-- Only the host's write of 1 lowers a sticky bit. -/
theorem stickyChange_falls {b : Nat} {s0 s t : State} (h : StickyChange b s0 s t)
    (hs : stickyBit b s.status = true) (ht : stickyBit b t.status = false) :
    ∃ v, s0.inputs = wr s.params .status v :: s.inputs ∧ v.getLsbD b = true := by
  cases h with
  | cleared v hi heq => exact ⟨v, hi, by simpa [hs, ht] using heq⟩
  | kept heq => simp [hs, ht] at heq
  | refused _ _ _ heq => simp [hs, ht] at heq
  | failed _ _ _ _ heq => simp [hs, ht] at heq

/-- E_BUSY rises by a refused CMD write, every other bit by the completion with its error. -/
theorem stickyChange_rises {b : Nat} {s0 s t : State} (h : StickyChange b s0 s t)
    (hs : stickyBit b s.status = false) (ht : stickyBit b t.status = true) :
    (b = 18 ∧ s.status.busy = true ∧ ∃ w, s0.inputs = cmdWrite s.params w :: s.inputs)
      ∨ ∃ e, b = errorBit e ∧ raisesError e s0 s ∧ t.completed ∧ t.status.code = errorCode e := by
  cases h with
  | cleared _ _ heq => simp [hs, ht] at heq
  | kept heq => simp [hs, ht] at heq
  | refused w hi hb heq => exact .inl ⟨by simpa [hs, ht] using heq, hb, w, hi⟩
  | failed e hraises hdone hcode heq =>
    exact .inr ⟨e, by simpa [hs, ht] using heq, hraises, hdone, hcode⟩

/-! Every step -/

theorem step_sticky_falls {b : Nat} {s t : State} (h : step s = .next t)
    (hs : stickyBit b s.status = true) (ht : stickyBit b t.status = false) :
    ∃ rest, s.inputs = .reset :: rest
      ∨ ∃ v : Word, s.inputs = wr s.params .status v :: rest ∧ v.getLsbD b = true := by
  rcases step_change h with ⟨rest, hi, -⟩ | ⟨-, rest, hchange⟩
  · exact ⟨rest, .inl hi⟩
  · obtain ⟨v, hi, hv⟩ := stickyChange_falls (change_sticky b hchange) hs ht
    exact ⟨rest, .inr ⟨v, hi, hv⟩⟩

theorem stickyBit_reset (b : Nat) (s : State) : stickyBit b (resetEvent s).status = false := by
  unfold stickyBit; split <;> rfl

theorem step_sticky_rises {b : Nat} {s t : State} (h : step s = .next t)
    (hs : stickyBit b s.status = false) (ht : stickyBit b t.status = true) :
    (b = 18 ∧ s.status.busy = true ∧ ∃ w rest, s.inputs = cmdWrite s.params w :: rest)
      ∨ ∃ e rest, b = errorBit e ∧ raisesError e s { s with inputs := rest } ∧ t.completed
        ∧ t.status.code = errorCode e := by
  rcases step_change h with ⟨rest, -, rfl⟩ | ⟨-, rest, hchange⟩
  · simp [stickyBit_reset] at ht
  · rcases stickyChange_rises (change_sticky b hchange) hs ht with ⟨hb, hbusy, w, hi⟩ | ⟨e, herr⟩
    · exact .inl ⟨hb, hbusy, w, rest, hi⟩
    · exact .inr ⟨e, rest, herr⟩

/-- Settles O47: a bit falls and rises as `StickyChange` lists it; each error names its own cause. -/
theorem stickyBitsStayUntilCleared : Obligations.StickyBitsStayUntilCleared := by
  intro s t b hlo hhi h
  rw [statusWord_stickyBit hlo hhi, statusWord_stickyBit hlo hhi]
  refine ⟨step_sticky_falls h, fun hs ht => ?rises, fun rest hi => ?reset⟩
  case reset =>
    cases (step_reset hi).symm.trans h
    exact stickyBit_reset b _
  case rises =>
    rcases step_sticky_rises h hs ht with hbusy | ⟨e, rest, hb, hraises, ⟨hidle, hdone, hseq⟩, hcode⟩
    · exact .inl hbusy
    refine .inr ⟨hidle, hdone, hseq, ?_⟩
    rcases hraises with ⟨w, hi, hfree, hfails⟩ | ⟨rfl, hrun⟩
    · cases e with
      | illegal => exact .inl ⟨hb, hcode, w, rest, ⟨hi, hfree⟩, hfails⟩
      | range =>
        refine .inr (.inl ⟨hb, hcode, w, rest, ⟨hi, hfree⟩, ?_⟩)
        rcases hfails with ⟨f, d, hd, hf, hout⟩ | hservo
        · exact .inl ⟨f, d, hd, hf, by omega⟩
        · exact .inr hservo
      | precond => exact .inr (.inr (.inl ⟨hb, hcode, hfails.1, w, rest, ⟨hi, hfree⟩, hfails.2⟩))
      | arith => exact hfails.elim
    · exact .inr (.inr (.inr ⟨hb, hcode, hrun⟩))

end Sys2Proof.Machine
end

section
/-! The observation registers change no behaviour (10_state.md R40, R41, 60_exceptions.md R242,
92_eei_decisions.md D17): each operation, then the step, answers the same but for them and the read data
whether they were blanked before or not. -/

namespace Sys2Proof.Machine

/-! Blanking -/

/-- A state with its observation registers and the host's read data blanked. -/
def State.blind (s : State) : State := { s with obs := Observed.cleared, reply := none }

/-- An answer with its state blanked. -/
def blindOutcome : Outcome → Outcome
  | .next t => .next t.blind
  | .fault r => .fault r
  | .refused r => .refused r

/-- Two states that are the same blanked differ in the observation registers and the read data alone. -/
theorem eq_of_blind_eq {t t' : State} (h : t'.blind = t.blind) :
    { t' with obs := t.obs, reply := t.reply } = t :=
  congrArg (fun u : State => { u with obs := t.obs, reply := t.reply }) h

theorem next_of_blindOutcome_eq {r : Outcome} {t : State} (h : blindOutcome r = .next t) :
    ∃ t', r = .next t' ∧ t'.blind = t := by
  cases r with
  | next t' => cases h; exact ⟨t', rfl, rfl⟩
  | fault => cases h
  | refused => cases h

/-! The sequencer -/

theorem blind_finishCount (v : Nat) (s : State) :
    (finishCount v s).blind = (finishCount v s.blind).blind := by
  unfold finishCount; split <;> rfl

/-- Two states that are the same blanked finish a count alike. -/
theorem blind_finishCount_congr (v : Nat) {s s' : State} (h : s.blind = s'.blind) :
    (finishCount v s).blind = (finishCount v s').blind := by
  rw [blind_finishCount, h, ← blind_finishCount]

theorem blind_gate1Step (s : State) : (gate1Step s).blind = (gate1Step s.blind).blind := by
  have hsame : s.blind.gate = s.gate := rfl
  rw [gate1Step, gate1Step, hsame]
  dsimp only
  split
  · exact blind_finishCount_congr _ rfl
  · rfl

theorem blind_gate2Step (s : State) : (gate2Step s).blind = (gate2Step s.blind).blind := by
  have hsame : s.blind.gate = s.gate := rfl
  rw [gate2Step, gate2Step, hsame]
  dsimp only
  split
  · rfl
  · split
    · exact blind_finishCount_congr _ rfl
    · rfl

theorem blind_takeMean (s : State) : (takeMean s).blind = (takeMean s.blind).blind := by
  have hsame : s.blind.avg = s.avg := rfl
  rw [takeMean, takeMean, hsame]
  dsimp only
  split <;> rfl

theorem blind_avgLoopStep (x : Word) (s : State) :
    (avgLoopStep x s).blind = (avgLoopStep x s.blind).blind := by
  have hacc : (accumulate x s).blind = (accumulate x s.blind).blind := rfl
  have hsame : (accumulate x s.blind).avg = (accumulate x s).avg := rfl
  rw [avgLoopStep, avgLoopStep, hsame]
  split
  · rw [blind_takeMean, hacc, ← blind_takeMean]
  · exact hacc

theorem blind_seqTurn (s : State) : (seqTurn s).blind = (seqTurn s.blind).blind := by
  have hseq : s.blind.seq = s.seq := rfl
  have hgate : s.blind.gate = s.gate := rfl
  have hcap : s.blind.capture = s.capture := rfl
  rw [seqTurn, seqTurn, hseq]
  cases s.seq with
  | idle => rfl
  | gate1 =>
    simp only [withExpiry, hgate]
    split
    · exact blind_gate1Step s
    · rfl
  | gate2 =>
    simp only [withExpiry, hgate]
    split
    · exact blind_gate2Step s
    · rfl
  | avgFirst =>
    simp only [withCapture, hcap]
    split <;> rfl
  | avgLoop =>
    simp only [withCapture, hcap]
    split
    · rfl
    · exact blind_avgLoopStep _ _

theorem blind_runAlone (s : State) : (runAlone s).blind = (runAlone s.blind).blind := by
  have hsame : seqEnabled s.blind = seqEnabled s := rfl
  rw [runAlone, runAlone, hsame]
  split
  · exact blind_seqTurn s
  · rfl

/-! The commands and the host's accesses -/

theorem blind_inIoMode {run : State → State} (hrun : ∀ s, (run s).blind = (run s.blind).blind)
    (s : State) :
    blindOutcome (inIoMode run s) = blindOutcome (inIoMode run s.blind) := by
  have hsame : s.blind.status = s.status := rfl
  rw [inIoMode, inIoMode, hsame]
  cases s.status.mode with
  | io => exact congrArg Host.Outcome.next (hrun s)
  | pwm => rfl

theorem blind_exec (i : Instr) (s : State) :
    blindOutcome (exec i s) = blindOutcome (exec i s.blind) := by
  cases i with
  | pulse f d =>
    simp only [exec, execPulse]
    split
    · rfl
    · split <;> rfl
  | servo a =>
    simp only [exec, execServo]
    split <;> rfl
  | measure =>
    have hsame : s.blind.status = s.status := rfl
    rw [exec, exec, execMeasure, execMeasure, hsame]
    cases s.status.mode <;> rfl
  | read => exact blind_inIoMode (fun _ => rfl) s
  | drive l => exact blind_inIoMode (fun _ => rfl) s
  | hiz => exact blind_inIoMode (fun _ => rfl) s

theorem blind_writeCmd (w : Word) (s : State) :
    blindOutcome (writeCmd w s) = blindOutcome (writeCmd w s.blind) := by
  have hsame : s.blind.status = s.status := rfl
  rw [writeCmd, writeCmd, hsame]
  split
  · rfl
  · unfold runWord
    split
    · exact (blind_exec _ (accept w s)).trans (blind_exec _ (accept w s.blind)).symm
    · rfl

theorem blind_writeReg (r : Reg) (v : Word) (s : State) :
    blindOutcome (writeReg r v s) = blindOutcome (writeReg r v s.blind) := by
  cases r
  case cmd => exact blind_writeCmd v s
  all_goals rfl

theorem blind_busAccess (a : Access) (s : State) :
    blindOutcome (busAccess a s) = blindOutcome (busAccess a s.blind) := by
  have hsame : s.blind.params = s.params := rfl
  cases a with
  | read addr width =>
    simp only [busAccess, hsame]
    split <;> rfl
  | write addr width v =>
    simp only [busAccess, hsame]
    split
    · exact blind_writeReg _ v s
    · rfl

theorem blind_consume (x : Input) (s : State) :
    blindOutcome (consume x s) = blindOutcome (consume x s.blind) := by
  cases x with
  | bus a => exact blind_busAccess a s
  | sequencer => exact congrArg Host.Outcome.next (blind_seqTurn s)
  | ticks | edges | level => rfl
  | reset => rfl

/-- A step answers the same, blanked, whatever the observation registers hold. -/
theorem blind_step (s : State) : blindOutcome (step s) = blindOutcome (step s.blind) := by
  have hsame : s.blind.inputs = s.inputs := rfl
  rw [step, step, hsame]
  cases s.inputs with
  | nil => exact congrArg Host.Outcome.next (blind_runAlone s)
  | cons x rest => exact blind_consume x { s with inputs := rest }

/-- Settles O53: both steps are the blanked state's, blanked. -/
theorem observationRegistersChangeNoBehaviour : Obligations.ObservationRegistersChangeNoBehaviour := by
  intro s t o h
  have hblind : blindOutcome (step { s with obs := o }) = .next t.blind :=
    calc blindOutcome (step { s with obs := o })
      _ = blindOutcome (step s.blind) := blind_step { s with obs := o }
      _ = blindOutcome (step s) := (blind_step s).symm
      _ = .next t.blind := by rw [h]; rfl
  obtain ⟨t', ht', hsame⟩ := next_of_blindOutcome_eq hblind
  exact ⟨t', ht', eq_of_blind_eq hsame⟩

end Sys2Proof.Machine
end

section
/-! Host accesses performed and stopped (20_memory.md R60 to R65): what a performed access changes, and that
the block stops at no input but an access that selects no register. -/

namespace Sys2Proof.Machine

/-! Reads, and writes without effect (R65) -/

theorem step_rd {s : State} {rest : List Input} {r : Reg} (hi : s.inputs = rd s.params r :: rest) :
    step s = .next { s with inputs := rest, reply := some (readReg r s) } :=
  (step_input hi).trans (consume_rd r { s with inputs := rest })

/-- Only CMD and STATUS take a write. -/
theorem writeReg_readOnly {r : Reg} (hcmd : r ≠ .cmd) (hstatus : r ≠ .status) (v : Word) (s : State) :
    writeReg r v s = .next s := by
  cases r
  case cmd => exact absurd rfl hcmd
  case status => exact absurd rfl hstatus
  all_goals rfl

/-- Settles O44. -/
theorem readsAndOtherWritesChangeNothing : Obligations.ReadsAndOtherWritesChangeNothing :=
  fun s rest _ => ⟨step_rd, fun v hcmd hstatus hi =>
    (step_wr hi).trans (writeReg_readOnly hcmd hstatus v { s with inputs := rest })⟩

/-! The accesses that select a register (R60, R62) -/

theorem addressLegal_iff (base addr width : Nat) :
    addressLegal base addr width = true
      ↔ base ≤ addr ∧ addr < base + windowBytes ∧ (addr - base) % 4 = 0 ∧ width = 4 := by
  simp only [addressLegal, Bool.and_eq_true, decide_eq_true_eq, and_assoc]

/-- The accesses the block performs are those that select a register. -/
theorem addressLegal_iff_selectReg (base addr width : Nat) :
    addressLegal base addr width = true ↔ ∃ r, selectReg base addr width = .ok r := by
  rw [addressLegal_iff]
  constructor
  · rintro ⟨hbase, hend, halign, rfl⟩
    have hsize : windowBytes = 64 := rfl
    obtain ⟨r, hr⟩ := (exists_regAt_iff (addr - base)).2 ⟨by omega, halign⟩
    have haddr : addr = base + regOffset r := by have := regOffset_of_regAt hr; omega
    exact ⟨r, haddr ▸ selectReg_regOffset base r⟩
  · rintro ⟨r, hr⟩
    obtain ⟨hwidth, rfl⟩ := selectReg_ok hr
    have hlt := regOffset_lt r
    exact ⟨by omega, by omega, by rw [Nat.add_sub_cancel_left]; exact regOffset_aligned r, hwidth⟩

/-! Performed or stopped (R63, log 13) -/

/-- An outcome that stops: the bus error, or the refusal outside the window. -/
def Stops (o : Outcome) : Prop := o = .fault .busError ∨ o = .refused .outsideWindow

theorem not_next_of_stops {o : Outcome} (h : Stops o) : ¬∃ t, o = .next t := by
  rintro ⟨t, rfl⟩
  rcases h with h | h <;> cases h

/-- A CMD write answers a next state, whether it is refused, accepted or ILLEGAL (60_exceptions.md
R230). -/
theorem writeCmd_next (w : Word) (s : State) : ∃ t, writeCmd w s = .next t := by
  unfold writeCmd
  split
  · exact ⟨_, rfl⟩
  · unfold runWord
    split
    · exact exec_next _ _
    · exact ⟨_, rfl⟩

theorem writeReg_next (r : Reg) (v : Word) (s : State) : ∃ t, writeReg r v s = .next t := by
  by_cases hcmd : r = .cmd
  · exact hcmd ▸ writeCmd_next v s
  · by_cases hstatus : r = .status
    · exact hstatus ▸ ⟨_, rfl⟩
    · exact ⟨s, writeReg_readOnly hcmd hstatus v s⟩

theorem busAccess_next {a : Access} {s : State} (h : accessLegal s.params a = true) :
    ∃ t, busAccess a s = .next t := by
  cases a with
  | read addr width =>
    obtain ⟨r, hr⟩ := (addressLegal_iff_selectReg _ _ _).1 h
    simp only [busAccess, hr]
    exact ⟨_, rfl⟩
  | write addr width v =>
    obtain ⟨r, hr⟩ := (addressLegal_iff_selectReg _ _ _).1 h
    simp only [busAccess, hr]
    exact writeReg_next r v s

/-- An access that is not performed selects nothing, and says why. -/
theorem selectReg_stops {base addr width : Nat} (h : ¬addressLegal base addr width = true) :
    ∃ o, selectReg base addr width = .error o ∧ Stops o := by
  cases hsel : selectReg base addr width with
  | ok r => exact absurd ((addressLegal_iff_selectReg _ _ _).2 ⟨r, hsel⟩) h
  | error o => exact ⟨o, rfl, selectReg_error hsel⟩

theorem busAccess_stops {a : Access} {s : State} (h : ¬accessLegal s.params a = true) :
    Stops (busAccess a s) := by
  cases a with
  | read addr width | write addr width v =>
    obtain ⟨o, hsel, hstop⟩ := selectReg_stops h
    simpa only [busAccess, hsel] using hstop

theorem consume_next {x : Input} {s : State} (h : inputLegal s.params x = true) :
    ∃ t, consume x s = .next t := by
  cases x with
  | bus a => exact busAccess_next h
  | sequencer | ticks | edges | level | reset => exact ⟨_, rfl⟩

theorem consume_stops {x : Input} {s : State} (h : ¬inputLegal s.params x = true) :
    Stops (consume x s) := by
  cases x with
  | bus a => exact busAccess_stops h
  | sequencer | ticks | edges | level | reset => exact absurd rfl h

/-! Every step -/

/-- Nothing stops the next step: no input is pending (log 3), or the oldest is one the block performs. -/
def State.nextInputLegal (s : State) : Prop :=
  s.inputs = [] ∨ ∃ x rest, s.inputs = x :: rest ∧ inputLegal s.params x = true

theorem step_next_of_nextInputLegal {s : State} (h : s.nextInputLegal) : ∃ t, step s = .next t := by
  rcases h with hi | ⟨x, rest, hi, hx⟩
  · exact ⟨runAlone s, by rw [step, hi]⟩
  · rw [step_input hi]
    exact consume_next hx

theorem step_stops_of_not_nextInputLegal {s : State} (h : ¬s.nextInputLegal) : Stops (step s) := by
  cases hi : s.inputs with
  | nil => exact absurd (.inl hi) h
  | cons x rest =>
    rw [step_input hi]
    exact consume_stops fun hx => h (.inr ⟨x, rest, hi, hx⟩)

/-- Settles O46: a step goes on or stops at an access, and these exclude each other. -/
theorem onlyIllegalAccessesStop : Obligations.OnlyIllegalAccessesStop := by
  intro s
  by_cases h : s.nextInputLegal
  · have hnext := step_next_of_nextInputLegal h
    exact ⟨iff_of_true hnext h, .inl hnext⟩
  · have hstop := step_stops_of_not_nextInputLegal h
    exact ⟨iff_of_false (not_next_of_stops hstop) h, .inr hstop⟩

end Sys2Proof.Machine
end

section
/-! The encoding (30_encoding.md R83 to R91): the decoder said once, by the fields of the word; then encoder,
match table and illegal words each follow from their own fields. -/

namespace Sys2Proof

/-! The decoder by its fields (R91) -/

/-- What ARG_A and ARG_B of `w` hold when `w` is the command `i`: its operands, and 0 in the must-be-zero
bits (R84 to R89). -/
def OperandFields (w : Word) : Instr → Prop
  | .pulse freq duty => field w 16 16 = freq ∧ field w 8 8 = duty
  | .servo angle => field w 8 8 = 0 ∧ field w 16 16 = angle
  | .measure => field w 8 24 = 0
  | .read => field w 8 24 = 0
  | .drive level => field w 9 23 = 0 ∧ w.getLsbD 8 = level
  | .hiz => field w 8 24 = 0

/-- A must-be-zero field as the decoder tests it (R84). -/
theorem mustBeZero_eq_ok_iff {n : Nat} {e : DecodeError} {i j : Instr} :
    (if n ≠ 0 then .error e else .ok j : Except DecodeError Instr) = .ok i ↔ n = 0 ∧ j = i := by
  by_cases h : n = 0 <;> simp [h]

theorem fields_of_decode {w : Word} {i : Instr} (h : decode w = .ok i) :
    field w 4 4 = 0 ∧ field w 0 4 = opcode i ∧ OperandFields w i := by
  unfold decode at h
  split at h
  case isTrue => cases h
  case isFalse hrsv =>
    refine ⟨not_not.1 hrsv, ?_⟩
    split at h
    case h_1 hop => cases h; exact ⟨hop, rfl, rfl⟩
    case h_2 hop | h_5 hop =>
      obtain ⟨hzero, rfl⟩ := mustBeZero_eq_ok_iff.1 h
      exact ⟨hop, hzero, rfl⟩
    case h_3 hop | h_4 hop | h_6 hop =>
      obtain ⟨hzero, rfl⟩ := mustBeZero_eq_ok_iff.1 h
      exact ⟨hop, hzero⟩
    case h_7 => cases h

theorem decode_of_fields {w : Word} {i : Instr} (hrsv : field w 4 4 = 0) (hop : field w 0 4 = opcode i)
    (hargs : OperandFields w i) : decode w = .ok i := by
  rw [decode, if_neg (not_not.2 hrsv), hop]
  cases i with
  | pulse => obtain ⟨rfl, rfl⟩ := hargs; rfl
  | servo | drive => exact mustBeZero_eq_ok_iff.2 ⟨hargs.1, congrArg _ hargs.2⟩
  | measure | read | hiz => exact mustBeZero_eq_ok_iff.2 ⟨hargs, rfl⟩

/-! The arithmetic of a field (00_scope.md R10) -/

theorem field_eq_div_mod (w : Word) (lo len : Nat) : field w lo len = w.toNat / 2 ^ lo % 2 ^ len := by
  rw [field, BitVec.extractLsb'_toNat, Nat.shiftRight_eq_div_pow]

theorem field_lt (w : Word) (lo len : Nat) : field w lo len < 2 ^ len := (w.extractLsb' lo len).isLt

theorem getLsbD_toNat_eq_field (w : Word) (b : Nat) : (w.getLsbD b).toNat = field w b 1 := by
  rw [field_eq_div_mod, BitVec.getLsbD, Nat.toNat_testBit, Nat.pow_one]

theorem extract_eq_of_field {w : Word} {lo len n : Nat} (h : field w lo len = n) :
    w.extractLsb' lo len = BitVec.ofNat len n := by
  rw [← h, field, BitVec.ofNat_toNat, BitVec.setWidth_eq]

/-! Encoding then decoding, and back (R92) -/

theorem opcode_and_reserved_of_encode {i : Instr} (h : i.WellFormed) :
    field (encode i) 0 4 = opcode i ∧ field (encode i) 4 4 = 0 := by
  cases i with
  | pulse freq duty => exact Laws.OpcodeField.pulse freq duty h
  | servo angle => exact Laws.OpcodeField.servo angle h
  | measure => exact Laws.OpcodeField.measure h
  | read => exact Laws.OpcodeField.read h
  | drive level => exact Laws.OpcodeField.drive level h
  | hiz => exact Laws.OpcodeField.hiz h

theorem operandFields_encode {i : Instr} (h : i.WellFormed) : OperandFields (encode i) i := by
  cases i with
  | pulse freq duty =>
    simp only [Instr.WellFormed, Instr.wf, Bool.and_eq_true, decide_eq_true_eq] at h
    simp only [OperandFields, field_eq_div_mod, encode, BitVec.toNat_ofNat]
    omega
  | servo angle =>
    simp only [Instr.WellFormed, Instr.wf, decide_eq_true_eq] at h
    simp only [OperandFields, field_eq_div_mod, encode, BitVec.toNat_ofNat]
    omega
  | drive level => cases level <;> exact ⟨by decide, by decide⟩
  | measure | read | hiz => simp only [OperandFields]; decide

/-- Settles O1. -/
theorem encodedCommandDecodes : Obligations.EncodedCommandDecodes := by
  intro i h
  obtain ⟨hop, hrsv⟩ := opcode_and_reserved_of_encode h
  exact decode_of_fields hrsv hop (operandFields_encode h)

theorem wellFormed_of_operandFields {w : Word} {i : Instr} (h : OperandFields w i) : i.WellFormed := by
  cases i with
  | pulse freq duty =>
    obtain ⟨rfl, rfl⟩ := h
    have hfreq := field_lt w 16 16
    have hduty := field_lt w 8 8
    simp only [Instr.WellFormed, Instr.wf, Bool.and_eq_true, decide_eq_true_eq]
    omega
  | servo angle =>
    obtain ⟨-, rfl⟩ := h
    have hangle := field_lt w 16 16
    simp only [Instr.WellFormed, Instr.wf, decide_eq_true_eq]
    omega
  | measure | read | drive | hiz => rfl

/-- The fields of R81 are the whole word, so they determine it. -/
theorem encode_of_fields {w : Word} {i : Instr} (hrsv : field w 4 4 = 0) (hop : field w 0 4 = opcode i)
    (hargs : OperandFields w i) : encode i = w := by
  apply BitVec.eq_of_toNat_eq
  have hw := w.isLt
  cases i with
  | drive level =>
    obtain ⟨hzero, rfl⟩ := hargs
    rw [encode, getLsbD_toNat_eq_field, BitVec.toNat_ofNat]
    simp only [field_eq_div_mod, opcode] at *
    omega
  | pulse | servo | measure | read | hiz =>
    simp only [field_eq_div_mod, opcode, OperandFields, encode, BitVec.ofNat_eq_ofNat,
      BitVec.toNat_ofNat] at *
    omega

/-- Settles O2. -/
theorem decodedWordIsItsEncoding : Obligations.DecodedWordIsItsEncoding := by
  intro w i h
  obtain ⟨hrsv, hop, hargs⟩ := fields_of_decode h
  exact ⟨wellFormed_of_operandFields hargs, encode_of_fields hrsv hop hargs⟩

/-! The match and mask rows (R90) -/

/-- A field that the mask covers is the match's. -/
theorem field_of_row {w mask m : Word} {lo len : Nat} (h : w &&& mask = m)
    (hcover : mask.extractLsb' lo len = BitVec.allOnes len) : field w lo len = field m lo len := by
  rw [field, field, ← h, BitVec.extractLsb'_and, hcover, BitVec.and_allOnes]

/-- A word of a row decodes to the row's command with the operands its free fields hold. -/
theorem decode_of_row {w : Word} {i : Instr} (h : w &&& rowMask i = rowMatch i)
    (hargs : OperandFields w i) : decode w = .ok i := by
  obtain ⟨hmaskRsv, hmaskOp⟩ : (rowMask i).extractLsb' 4 4 = BitVec.allOnes 4
      ∧ (rowMask i).extractLsb' 0 4 = BitVec.allOnes 4 := by
    cases i <;> (simp only [rowMask]; decide)
  obtain ⟨hmatchRsv, hmatchOp⟩ : field (rowMatch i) 4 4 = 0 ∧ field (rowMatch i) 0 4 = opcode i := by
    cases i <;> (simp only [rowMatch, opcode]; decide)
  exact decode_of_fields ((field_of_row h hmaskRsv).trans hmatchRsv)
    ((field_of_row h hmaskOp).trans hmatchOp) hargs

/-- A row whose mask is the low `n` bits matches by the remainder of the word. -/
theorem and_lowMask_eq {w m : Word} {n : Nat} (hn : n ≤ 32) (h : w.toNat % 2 ^ n = m.toNat) :
    w &&& BitVec.ofNat 32 (2 ^ n - 1) = m := by
  have hlt : 2 ^ n - 1 < 2 ^ 32 :=
    Nat.lt_of_lt_of_le (Nat.sub_lt (Nat.two_pow_pos n) Nat.one_pos) (Nat.pow_le_pow_right (by decide) hn)
  apply BitVec.eq_of_toNat_eq
  rw [BitVec.toNat_and, BitVec.toNat_ofNat, Nat.mod_eq_of_lt hlt, Nat.and_two_pow_sub_one_eq_mod, h]

/-- A command's word is in its row, whatever its operands. -/
theorem encode_matches_row (i : Instr) : encode i &&& rowMask i = rowMatch i := by
  cases i with
  | pulse =>
    refine and_lowMask_eq (n := 8) (by decide) ?_
    simp only [encode, rowMatch, BitVec.ofNat_eq_ofNat, BitVec.toNat_ofNat]
    omega
  | servo =>
    refine and_lowMask_eq (n := 16) (by decide) ?_
    simp only [encode, rowMatch, BitVec.ofNat_eq_ofNat, BitVec.toNat_ofNat]
    omega
  | drive level => cases level <;> decide
  | measure | read | hiz => decide

/-- Every mask holds OP and RSV whole, so the low byte of a word alone says which row it can match. -/
theorem rowMatch_eq_low_byte {w : Word} {i : Instr} (h : w &&& rowMask i = rowMatch i) :
    rowMatch i = w &&& 0xFF :=
  calc rowMatch i = rowMatch i &&& 0xFF := by cases i <;> (simp only [rowMatch]; decide)
    _ = w &&& (rowMask i &&& 0xFF) := by rw [← h, BitVec.and_assoc]
    _ = w &&& 0xFF := congrArg (w &&& ·) (by cases i <;> (simp only [rowMask]; decide))

/-- Settles O3. -/
theorem decoderFollowsMatchTable : Obligations.DecoderFollowsMatchTable := by
  refine fun w => ⟨fun h => decode_of_row h ⟨rfl, rfl⟩,
    fun h => decode_of_row h ⟨field_of_row h (by decide), rfl⟩,
    fun h => decode_of_row (i := .measure) h (field_of_row h (by decide)),
    fun h => decode_of_row (i := .read) h (field_of_row h (by decide)),
    fun h => decode_of_row h ⟨field_of_row h (by decide), rfl⟩,
    fun h => decode_of_row (i := .hiz) h (field_of_row h (by decide)), fun hnone => ?_,
    fun i j hi hj => (rowMatch_eq_low_byte hi).trans (rowMatch_eq_low_byte hj).symm⟩
  cases hd : decode w with
  | error e => exact ⟨e, rfl⟩
  | ok i =>
    obtain ⟨-, hw⟩ := decodedWordIsItsEncoding w i hd
    exact absurd (hw ▸ encode_matches_row i) (hnone i)

/-! Sample words (R92, 95_test_vectors.md 2.1) -/

/-- Settles O4: each word is the encoding of its command. -/
theorem sampleWordsDecode : Obligations.SampleWordsDecode :=
  ⟨encodedCommandDecodes (.pulse 1000 50) rfl, encodedCommandDecodes (.pulse 0 0) rfl,
    encodedCommandDecodes (.servo 90) rfl, encodedCommandDecodes .measure rfl,
    encodedCommandDecodes .read rfl, encodedCommandDecodes (.drive true) rfl,
    encodedCommandDecodes (.drive false) rfl, encodedCommandDecodes .hiz rfl⟩

/-! Illegal words (R83, R84) -/

/-- R83 and R84 word by word: the opcode is reserved, or a must-be-zero field of it is not 0. -/
def IllegalWord (w : Word) : Prop :=
  w.extractLsb' 0 4 = 0 ∨ 7 ≤ (w.extractLsb' 0 4).toNat
    ∨ w.extractLsb' 4 4 ≠ 0
    ∨ (w.extractLsb' 0 4 ∈ [2, 3, 4, 6] ∧ w.extractLsb' 8 8 ≠ 0)
    ∨ (w.extractLsb' 0 4 ∈ [3, 4, 5, 6] ∧ w.extractLsb' 16 16 ≠ 0)
    ∨ (w.extractLsb' 0 4 = 5 ∧ w.extractLsb' 9 7 ≠ 0)

/-- The part of a field that is 0 is 0. -/
theorem extract_eq_zero_of_field {w : Word} {lo len : Nat} (h : field w lo len = 0) {lo' len' : Nat}
    (hlo : lo ≤ lo') (hhi : lo' + len' ≤ lo + len) : w.extractLsb' lo' len' = 0 := by
  refine Machine.extract_eq_zero fun b hb => ?_
  have hbit : (w.extractLsb' lo len).getLsbD (lo' + b - lo) = w.getLsbD (lo' + b) := by
    rw [BitVec.getLsbD_extractLsb', Nat.add_sub_cancel' (by omega), decide_eq_true (by omega),
      Bool.true_and]
  rw [← hbit, extract_eq_of_field h, BitVec.getLsbD_zero]

theorem opcode_bounds (i : Instr) : BitVec.ofNat 4 (opcode i) ≠ 0 ∧ opcode i < 7 := by
  cases i <;> (simp only [opcode]; decide)

theorem argB_eq_zero {w : Word} {i : Instr} (hargs : OperandFields w i)
    (h : BitVec.ofNat 4 (opcode i) ∈ [2, 3, 4, 6]) : w.extractLsb' 8 8 = 0 := by
  cases i with
  | pulse | drive => simp [opcode] at h
  | servo => exact extract_eq_of_field hargs.1
  | measure | read | hiz => exact extract_eq_zero_of_field hargs (by decide) (by decide)

theorem argA_eq_zero {w : Word} {i : Instr} (hargs : OperandFields w i)
    (h : BitVec.ofNat 4 (opcode i) ∈ [3, 4, 5, 6]) : w.extractLsb' 16 16 = 0 := by
  cases i with
  | pulse | servo => simp [opcode] at h
  | drive => exact extract_eq_zero_of_field hargs.1 (by decide) (by decide)
  | measure | read | hiz => exact extract_eq_zero_of_field hargs (by decide) (by decide)

theorem driveArgB_eq_zero {w : Word} {i : Instr} (hargs : OperandFields w i)
    (h : BitVec.ofNat 4 (opcode i) = 5) : w.extractLsb' 9 7 = 0 := by
  cases i with
  | drive => exact extract_eq_zero_of_field hargs.1 (by decide) (by decide)
  | pulse | servo | measure | read | hiz => simp [opcode] at h

theorem not_illegalWord_of_decode {w : Word} {i : Instr} (h : decode w = .ok i) : ¬IllegalWord w := by
  obtain ⟨hrsv, hop, hargs⟩ := fields_of_decode h
  obtain ⟨hne, hlt⟩ := opcode_bounds i
  rw [IllegalWord, extract_eq_of_field hop]
  rintro (h0 | h7 | hr | ⟨hm, hb⟩ | ⟨hm, ha⟩ | ⟨hm, hb⟩)
  · exact hne h0
  · rw [BitVec.toNat_ofNat] at h7; omega
  · exact hr (extract_eq_of_field hrsv)
  · exact hb (argB_eq_zero hargs hm)
  · exact ha (argA_eq_zero hargs hm)
  · exact hb (driveArgB_eq_zero hargs hm)

theorem decode_error_of_illegalWord {w : Word} (h : IllegalWord w) : ∃ e, decode w = .error e := by
  cases hd : decode w with
  | error e => exact ⟨e, rfl⟩
  | ok i => exact absurd h (not_illegalWord_of_decode hd)

end Sys2Proof

namespace Sys2Proof.Machine

theorem runWord_of_decode_error {w : Word} {e : DecodeError} (h : decode w = .error e) (s : State) :
    runWord w s = .next (failWith .illegal s) := by
  rw [runWord, h]

/-- Settles O5. -/
theorem illegalWordCompletesAtOnce : Obligations.IllegalWordCompletesAtOnce := by
  intro s w rest ha hill
  obtain ⟨e, hd⟩ := decode_error_of_illegalWord hill
  rw [step_accepted ha.1 ha.2, runWord_of_decode_error hd]
  rfl

end Sys2Proof.Machine
end

section
/-! The controller (40_controller.md): what an accepted word runs and when it has completed, what the host
can do to a running command, TimingReset and the exits of a MEASURE behind it. -/

namespace Sys2Proof.Machine

/-! Acceptance (R100) -/

theorem runWord_of_decode {w : Word} {i : Instr} (h : decode w = .ok i) (s : State) :
    runWord w s = exec i s := by
  rw [runWord, h]

/-- Settles O6. -/
theorem stepRunsDecodedCommand : Obligations.StepRunsDecodedCommand := by
  intro s w rest ha
  rw [step_accepted ha.1 ha.2]
  exact ⟨fun i hd => runWord_of_decode hd _, fun ⟨e, hd⟩ => runWord_of_decode_error hd _⟩

/-! Completion (R103, R104) -/

/-- A command has completed at its step's end unless it is a MEASURE that passes its mode check. -/
theorem exec_completes {i : Instr} {s t : State} (h : exec i s = .next t)
    (hn : ¬(i = .measure ∧ s.status.mode = .io)) : t.completed := by
  cases i with
  | pulse f d =>
    rcases execPulse_cases h with ⟨-, rfl⟩ | ⟨-, -, -, rfl⟩ | ⟨-, -, rfl⟩ <;> exact ⟨rfl, rfl, rfl⟩
  | servo a => rcases execServo_cases h with ⟨-, rfl⟩ | ⟨-, rfl⟩ <;> exact ⟨rfl, rfl, rfl⟩
  | measure =>
    rcases execMeasure_cases h with ⟨-, rfl⟩ | ⟨hio, -⟩
    · exact ⟨rfl, rfl, rfl⟩
    · exact absurd ⟨rfl, hio⟩ hn
  | read | drive | hiz => rcases inIoMode_cases h with ⟨-, rfl⟩ | ⟨-, rfl⟩ <;> exact ⟨rfl, rfl, rfl⟩

theorem exec_measure_of_io {s : State} (h : s.status.mode = .io) :
    exec .measure s = .next (startMeasure s) := by
  rw [exec, execMeasure, h]

/-- Settles O8. -/
theorem onlyMeasureOutlastsItsStep : Obligations.OnlyMeasureOutlastsItsStep := by
  intro s w rest ha
  rw [step_accepted ha.1 ha.2]
  refine ⟨fun hn => ?completes, fun hd hio => ?starts⟩
  case completes =>
    cases hd : decode w with
    | error e => exact ⟨_, runWord_of_decode_error hd _, rfl, rfl, rfl⟩
    | ok i =>
      obtain ⟨t, ht⟩ := exec_next i (accept w { s with inputs := rest })
      exact ⟨t, (runWord_of_decode hd _).trans ht,
        exec_completes ht fun ⟨hi, hio⟩ => hn ⟨hi ▸ hd, hio⟩⟩
  case starts => exact ⟨_, (runWord_of_decode hd _).trans (exec_measure_of_io hio), rfl, rfl, rfl⟩

/-! The host while a command runs (R101, R105) -/

theorem writeCmd_of_busy (w : Word) {s : State} (hb : s.status.busy = true) :
    writeCmd w s = .next (refuseBusy s) := if_pos hb

/-- `t` is `s` but for the read data and STATUS, of which the fields that belong to the command stand: what
a host access leaves of a running command. -/
abbrev State.undisturbed (s t : State) : Prop :=
  t = { s with status := t.status, reply := t.reply } ∧ t.status.busy = s.status.busy
    ∧ t.status.mode = s.status.mode ∧ t.status.autorange = s.status.autorange
    ∧ t.status.code = s.status.code

theorem busAccess_undisturbed {a : Access} {s t : State} (h : busAccess a s = .next t)
    (hb : s.status.busy = true) : s.undisturbed t := by
  rcases busAccess_cases h with ⟨r, -, rfl⟩ | ⟨r, v, -, hwrite⟩
  · exact ⟨rfl, rfl, rfl, rfl, rfl⟩
  · rcases writeReg_cases hwrite with ⟨-, hcmd⟩ | ⟨-, rfl⟩ | ⟨-, -, rfl⟩
    · cases (writeCmd_of_busy v hb).symm.trans hcmd
      exact ⟨rfl, rfl, rfl, rfl, rfl⟩
    · exact ⟨rfl, rfl, rfl, rfl, rfl⟩
    · exact ⟨rfl, rfl, rfl, rfl, rfl⟩

/-- Settles O7. -/
theorem hostCannotDisturbRunningCommand : Obligations.HostCannotDisturbRunningCommand := by
  refine fun s rest hb => ⟨fun w hi => ?cmd, fun a t hi h => ?access⟩
  case cmd =>
    calc step s
      _ = consume (cmdWrite s.params w) { s with inputs := rest } := step_input hi
      _ = writeCmd w { s with inputs := rest } := consume_cmdWrite w { s with inputs := rest }
      _ = .next (refuseBusy { s with inputs := rest }) :=
        writeCmd_of_busy w (s := { s with inputs := rest }) hb
  case access =>
    have hacc : busAccess a { s with inputs := rest } = .next t := (step_input hi).symm.trans h
    obtain ⟨hframe, hbusy, hmode, hauto, hcode⟩ := busAccess_undisturbed hacc hb
    exact ⟨hframe, hbusy.trans hb, hmode, hauto, hcode⟩

/-! TimingReset (R107) -/

theorem detach_eq (p : Pin) :
    detach p =
      { p with func := if p.func = .pwmOut ∨ p.func = .captureIn then .digitalIn else p.func } := by
  obtain ⟨func, latch⟩ := p
  cases func <;> rfl

/-- Settles O9. -/
theorem timingResetMakesPeripheralsNeutral : Obligations.TimingResetMakesPeripheralsNeutral := by
  intro s
  rw [← detach_eq]
  rfl

/-! The exits of a MEASURE (42_measure.md R179) -/

/-- `t` is where a MEASURE that ran in `s` has ended: completed, behind TimingReset. -/
structure State.MeasureEnds (s t : State) : Prop where
  gen : t.gen = Generator.neutral
  gate : t.gate = disableGate s.gate
  capture : ∃ c, t.capture = disableCapture c
  pin : t.pin = detach s.pin
  mode : t.status.mode = s.status.mode
  pcfg : t.pcfg = s.pcfg
  completed : t.completed

/-- A running command leaves its phases by `exit_measure` or `exit_measure_fail` alone. -/
theorem change_measureEnds {s0 s t : State} (h : Change s0 s t) (hseq : s.seq ≠ .idle)
    (hb : s.status.busy = true) (ht : t.seq = .idle) : s.MeasureEnds t := by
  cases h with
  | exitOk _ _ _ _ _ _ cap | exitFail _ _ cap =>
    exact ⟨rfl, rfl, ⟨cap, rfl⟩, rfl, rfl, rfl, rfl, rfl, rfl⟩
  | ticks | edges | line | read | clear | nothing | refuse | interval => exact absurd ht hseq
  | rearm | startAverager | baseline => cases ht
  | failed _ _ _ hfree | disable _ _ _ _ hfree | enable _ _ _ _ hfree | servo _ _ _ hfree
  | conflict _ _ hfree | start _ _ hfree | sample _ _ hfree | drive _ _ _ hfree | release _ _ hfree =>
    cases hb.symm.trans hfree

theorem detach_captureIn {p : Pin} (h : p.func = .captureIn) :
    detach p = { func := .digitalIn, latch := p.latch } := by
  rw [detach, h]

/-- Settles O35: the invariant makes the pin the capture input of a running MEASURE, which TimingReset
detaches. -/
theorem everyMeasureExitIsNeutral : Obligations.EveryMeasureExitIsNeutral := by
  intro s t hs hseq hreset h ht
  have hm : s.Measures := hs.measures hseq
  rcases step_change h with ⟨rest, hi, -⟩ | ⟨-, rest, hchange⟩
  · exact absurd hi (hreset rest)
  obtain ⟨hgen, hgate, ⟨c, hcap⟩, hpin, hmode, hpcfg, hbusy, hdone, -⟩ :=
    change_measureEnds hchange hseq hm.busy ht
  rw [hgate, hcap, hpin]
  exact ⟨hgen, rfl, rfl, rfl, rfl, rfl, rfl, detach_captureIn hm.func, hmode, hpcfg, hbusy, hdone⟩

/-! Digital I/O (R109) -/

/-- `t` has the timing peripherals, PCFG and MODE of `s`. -/
abbrev State.timingKept (s t : State) : Prop :=
  t.gen = s.gen ∧ t.gate = s.gate ∧ t.capture = s.capture ∧ t.pcfg = s.pcfg
    ∧ t.status.mode = s.status.mode

/-- The failure of the shared precondition keeps them too. -/
theorem inIoMode_timingKept {run : State → State} {s t : State} (hrun : s.timingKept (run s))
    (h : inIoMode run s = .next t) : s.timingKept t := by
  rcases inIoMode_cases h with ⟨-, rfl⟩ | ⟨-, rfl⟩
  · exact hrun
  · exact ⟨rfl, rfl, rfl, rfl, by simp⟩

/-- Settles O10. -/
theorem digitalIoLeavesTimingAlone : Obligations.DigitalIoLeavesTimingAlone := by
  intro s i hi
  obtain ⟨t, ht⟩ := exec_next i s
  refine ⟨t, ht, ?_⟩
  rcases hi with rfl | ⟨l, rfl⟩ | rfl
  · exact inIoMode_timingKept (run := samplePin) ⟨rfl, rfl, rfl, rfl, rfl⟩ ht
  · exact inIoMode_timingKept (run := drivePin l) ⟨rfl, rfl, rfl, rfl, rfl⟩ ht
  · exact inIoMode_timingKept (run := releasePin) ⟨rfl, rfl, rfl, rfl, rfl⟩ ht

end Sys2Proof.Machine
end

section
/-! The pulse generator's commands (41_pulse_generator.md): the prescaler bands and the values they give,
PULSE with FREQ > 0 and its disable form, SERVO, and which command writes PCFG. -/

namespace Sys2Proof.Machine

/-! The prescaler bands (R130) -/

theorem bandRatio_eq_r256 {f : Nat} (h : f ≤ 3) : bandRatio f = .r256 := by
  rw [bandRatio, if_pos (by omega)]

theorem bandRatio_eq_r64 {f : Nat} (hlow : 4 ≤ f) (hhigh : f ≤ 30) : bandRatio f = .r64 := by
  rw [bandRatio, if_neg (by omega), if_pos (by omega)]

theorem bandRatio_eq_r8 {f : Nat} (hlow : 31 ≤ f) (hhigh : f ≤ 244) : bandRatio f = .r8 := by
  rw [bandRatio, if_neg (by omega), if_neg (by omega), if_pos (by omega)]

theorem bandRatio_eq_r1 {f : Nat} (h : 245 ≤ f) : bandRatio f = .r1 := by
  rw [bandRatio, if_neg (by omega), if_neg (by omega), if_neg (by omega)]

/-- Settles O11. -/
theorem prescalerBands : Obligations.PrescalerBands := by
  intro f _
  unfold bandDivisor
  refine ⟨fun hhigh => ?r256, fun hlow hhigh => ?r64, fun hlow hhigh => ?r8, fun hlow => ?r1⟩
  case r256 => rw [bandRatio_eq_r256 hhigh]; exact ⟨rfl, rfl, rfl⟩
  case r64 => rw [bandRatio_eq_r64 hlow hhigh]; exact ⟨rfl, rfl, rfl⟩
  case r8 => rw [bandRatio_eq_r8 hlow hhigh]; exact ⟨rfl, rfl, rfl⟩
  case r1 => rw [bandRatio_eq_r1 hlow]; exact ⟨rfl, rfl, rfl⟩

/-! Period and duty (R131, R132) -/

theorem bandQuotient_eq_zero_iff {f : Nat} (h1 : 1 ≤ f) : bandDivisor f / f = 0 ↔ 16000 < f := by
  have hpos := bandQuotient_pos h1
  omega

theorem pulsePeriod_add_one {f : Nat} (h1 : 1 ≤ f) (hf : f ≤ 16000) :
    pulsePeriod f + 1 = bandDivisor f / f :=
  Nat.sub_add_cancel (Nat.pos_of_ne_zero ((bandQuotient_pos h1).2 hf))

theorem pulseDuty_zero (f : Nat) : pulseDuty f 0 = 0 := by
  rw [pulseDuty, Nat.mul_zero]

theorem pulseDuty_hundred (f : Nat) : pulseDuty f 100 = pulsePeriod f :=
  Nat.mul_div_cancel _ (by decide)

/-- Settles O12. -/
theorem periodAndDutyFitTheirRegisters : Obligations.PeriodAndDutyFitTheirRegisters :=
  fun f _ h1 => ⟨bandQuotient_eq_zero_iff h1, fun hf hd =>
    ⟨pulsePeriod_add_one h1 hf, pulsePeriod_le h1, Nat.mul_le_mul (pulsePeriod_le h1) hd, rfl,
      pulseDuty_le hd, pulseDuty_zero f, pulseDuty_hundred f⟩⟩

/-- In the 1:1 band the quotient is 16000 div f, given here by its two bounds. -/
theorem bandQuotient_eq {f q : Nat} (hband : 245 ≤ f) (hlow : q * f ≤ 16000)
    (hhigh : 16000 < (q + 1) * f) : bandDivisor f / f = q := by
  rw [bandDivisor, bandRatio_eq_r1 hband]
  exact Nat.div_eq_of_lt_le hlow hhigh

/-! PULSE with FREQ > 0 (R133, R135) -/

theorem exec_pulse_of_outOfRange {f d : Nat} (h1 : 1 ≤ f) (h : ¬(f ≤ 16000 ∧ d ≤ 100)) (s : State) :
    exec (.pulse f d) s = .next (failWith .range s) := by
  rw [exec, execPulse, if_neg (by omega), if_neg (mt (pulseInRange_iff h1).1 h)]

/-- A function bound after the detach is bound to the pin as it was: the detach keeps LATCH. -/
theorem bind_detach (p : Pin) (func : PinFunc) :
    { detach p with func := func } = { p with func := func } :=
  congrArg (Pin.mk func) (detach_latch p)

/-- Settles O13. -/
theorem pulseEnablesGenerator : Obligations.PulseEnablesGenerator := by
  refine fun s f d h1 => ⟨fun hf hd => ?inRange, fun hout => ?outOfRange, bandQuotient_eq_zero_iff h1,
    fun hlow hhigh => ?period0, fun hlow hhigh => ?period1⟩
  case inRange =>
    rw [exec_pulse_of_inRange h1 hf hd, ← bind_detach s.pin]
    rfl
  case outOfRange =>
    rw [bandQuotient_eq_zero_iff h1] at hout
    rw [exec_pulse_of_outOfRange h1 (by omega)]
    rfl
  case period0 => rw [bandQuotient_eq (q := 1) (by omega) (by omega) (by omega)]
  case period1 => rw [bandQuotient_eq (q := 2) (by omega) (by omega) (by omega)]

/-! PULSE with FREQ = 0 (R134) -/

theorem exec_pulse_zero (d : Nat) (s : State) : exec (.pulse 0 d) s = .next (disablePulse s) := rfl

theorem detach_of_unbound {p : Pin} (hpwm : p.func ≠ .pwmOut) (hcapture : p.func ≠ .captureIn) :
    detach p = p := by
  rw [detach_eq, if_neg (not_or.2 ⟨hpwm, hcapture⟩)]

theorem detach_detach (p : Pin) : detach (detach p) = detach p := by
  rcases detach_func_io p with h | h <;> exact detach_of_unbound (by simp [h]) (by simp [h])

/-- The disable form finds nothing left to do behind itself. -/
theorem disablePulse_disablePulse (s : State) : disablePulse (disablePulse s) = disablePulse s := by
  have hpin : (disablePulse (disablePulse s)).pin = (disablePulse s).pin := detach_detach s.pin
  calc disablePulse (disablePulse s)
    _ = { disablePulse s with pin := (disablePulse (disablePulse s)).pin } := rfl
    _ = disablePulse s := by rw [hpin]

/-- In IO mode with no command running, R46 leaves the generator off and the pin to no timing
peripheral. -/
theorem State.R46.unbound {s : State} (h : s.R46) (hseq : s.seq = .idle) (hmode : s.status.mode = .io) :
    s.gen.en = false ∧ s.pin.func ≠ .pwmOut ∧ s.pin.func ≠ .captureIn := by
  obtain ⟨⟨hpwm, hout⟩, -, hcapture, -, -⟩ := h
  have hoff : s.gen.en ≠ true := fun hen => by cases hmode.symm.trans (hpwm.2 hen)
  exact ⟨Bool.eq_false_iff.2 hoff, mt hout.2 hoff, fun hc => hcapture.1 hc hseq⟩

/-- Settles O14. -/
theorem pulseZeroDisablesGenerator : Obligations.PulseZeroDisablesGenerator := by
  refine fun s d => ⟨⟨disablePulse s, exec_pulse_zero d s, rfl, fun d' => ?again⟩,
    fun hs hseq hmode => ⟨disablePulse s, exec_pulse_zero d s, ?inIoMode⟩⟩
  case again => rw [exec_pulse_zero, disablePulse_disablePulse]
  case inIoMode =>
    obtain ⟨hoff, hpwm, hcapture⟩ := hs.unbound hseq hmode
    exact ⟨detach_of_unbound hpwm hcapture, hoff.symm, rfl⟩

/-! SERVO (R136, R137) -/

theorem exec_servo_of_outOfRange {a : Nat} (h : 180 < a) (s : State) :
    exec (.servo a) s = .next (failWith .range s) := by
  rw [exec, execServo, if_neg (mt servoInRange_iff.1 (by omega))]

/-- Settles O15. -/
theorem servoEnablesGenerator : Obligations.ServoEnablesGenerator := by
  refine ⟨⟨rfl, rfl, rfl⟩, fun s a => ⟨fun ha => ?inRange, exec_servo_of_outOfRange (s := s)⟩⟩
  rw [exec_servo_of_inRange ha, ← bind_detach s.pin]
  rfl

/-- The servo compare value with the common factor 250 of its fraction taken out. -/
theorem servoDuty_eq (a : Nat) : servoDuty a = 5 * a / 14 + 62 := by
  unfold servoDuty servoPeriod; omega

theorem servoDuty_mono {a b : Nat} (h : a ≤ b) : servoDuty a ≤ servoDuty b := by
  rw [servoDuty_eq, servoDuty_eq]
  exact Nat.add_le_add_right (Nat.div_le_div_right (Nat.mul_le_mul_left 5 h)) 62

/-- Settles O16. -/
theorem servoCompareValue : Obligations.ServoCompareValue :=
  ⟨fun a => ⟨rfl, servoDuty_eq a⟩, fun _ ha => ⟨Nat.le_add_left 62 _, servoDuty_le ha⟩,
    fun _ _ => servoDuty_mono, by decide⟩

/-! PCFG (R141) -/

theorem exec_pulse_pcfg_of_pwmEnabled {f d : Nat} {s t : State} (h1 : 1 ≤ f)
    (h : exec (.pulse f d) s = .next t) (hcode : t.status.code = .pwmEnabled) :
    t.pcfg = { freq := BitVec.ofNat 16 f, duty := BitVec.ofNat 8 d, angle := s.pcfg.angle } := by
  rcases execPulse_cases h with ⟨rfl, -⟩ | ⟨-, -, -, rfl⟩ | ⟨-, -, rfl⟩
  · cases h1
  · rfl
  · cases hcode

theorem exec_servo_pcfg_of_servoEnabled {a : Nat} {s t : State} (h : exec (.servo a) s = .next t)
    (hcode : t.status.code = .servoEnabled) :
    t.pcfg = { s.pcfg with angle := BitVec.ofNat 8 a } := by
  rcases execServo_cases h with ⟨-, rfl⟩ | ⟨-, rfl⟩
  · rfl
  · cases hcode

/-- A form that fails its range check writes nothing of PCFG. -/
theorem pcfg_of_range {f d a : Nat} {s t : State}
    (h : exec (.pulse f d) s = .next t ∨ exec (.servo a) s = .next t) (hcode : t.status.code = .range) :
    t.pcfg = s.pcfg := by
  rcases h with hpulse | hservo
  · rcases execPulse_cases hpulse with ⟨-, rfl⟩ | ⟨-, -, -, rfl⟩ | ⟨-, -, rfl⟩
    · cases hcode
    · cases hcode
    · rfl
  · rcases execServo_cases hservo with ⟨-, rfl⟩ | ⟨-, rfl⟩
    · cases hcode
    · rfl

theorem change_pcfg {s0 s t : State} (h : Change s0 s t) (hne : t.pcfg ≠ s.pcfg) :
    ∃ w, s0.inputs = cmdWrite s.params w :: s.inputs ∧ s.status.busy = false
      ∧ ((∃ f d, decode w = .ok (.pulse f d)) ∨ ∃ a, decode w = .ok (.servo a)) := by
  cases h with
  | disable w f d hi hb hd => exact ⟨w, hi, hb, .inl ⟨f, d, hd⟩⟩
  | enable w f d hi hb hd => exact ⟨w, hi, hb, .inl ⟨f, d, hd⟩⟩
  | servo w a hi hb hd => exact ⟨w, hi, hb, .inr ⟨a, hd⟩⟩
  | _ => exact absurd rfl hne

/-- Settles O50. -/
theorem onlyGeneratorCommandsWritePulseConfig : Obligations.OnlyGeneratorCommandsWritePulseConfig := by
  refine ⟨fun s t f d a => ⟨exec_pulse_pcfg_of_pwmEnabled, fun h => ?zero,
    exec_servo_pcfg_of_servoEnabled, pcfg_of_range⟩, fun s t h hne => ?step⟩
  case zero => cases (exec_pulse_zero d s).symm.trans h; rfl
  case step =>
    rcases step_change h with ⟨rest, hi, -⟩ | ⟨-, rest, hchange⟩
    · exact ⟨rest, .inl hi⟩
    · obtain ⟨w, hi, hb, hd⟩ := change_pcfg hchange hne
      exact ⟨rest, .inr ⟨w, ⟨hi, hb⟩, hd⟩⟩

end Sys2Proof.Machine
end

section
/-! The decimal result (42_measure.md R175 to R178, R185): the band of a mean period, the value truncated to
its digits, and the text a host shows. -/

namespace Sys2Proof.Machine

/-! The band and the value -/

/-- Settles O33: the thresholds from the coarsest band to the finest, each past the one before. -/
theorem decimalBandsAreStrict : Obligations.DecimalBandsAreStrict := by
  intro p
  unfold decimalBand
  split
  · omega
  · split
    · omega
    · split
      · omega
      · split <;> omega

/-- Past the threshold of a finer band the extra digit is paid by the larger period, so every value fits the
result register (R177). -/
theorem decimalValue_le {p : Nat} (hp : 1 ≤ p) : decimalValue p ≤ 160000000 := by
  obtain ⟨hfive, hfour, hthree, htwo, _⟩ := decimalBandsAreStrict p
  refine Nat.div_le_of_le_mul ?_
  rcases decimalBand_cases p with h | h | h | h | h <;> rw [h]
  · omega
  · have := htwo.1 h; omega
  · have := hthree.1 h; omega
  · have := hfour.1 h; omega
  · have := hfive.1 h; omega

theorem decimalInt_lt {p : Nat} (hp : 1 ≤ p) : decimalInt p < 2 ^ 32 := by
  have hquot : decimalInt p ≤ decimalValue p := Nat.div_le_self _ _
  have hvalue := decimalValue_le hp
  omega

theorem decimalFrac_lt {p : Nat} (hp : 1 ≤ p) : decimalFrac p < 2 ^ 32 := by
  have hrem : decimalFrac p ≤ decimalValue p := Nat.mod_le _ _
  have hvalue := decimalValue_le hp
  omega

/-- Settles O34. -/
theorem decimalValueIsTruncatedQuotient : Obligations.DecimalValueIsTruncatedQuotient :=
  fun _ hp => ⟨Nat.div_mul_le_self _ _, (Nat.lt_mul_div_succ _ hp).trans_eq (Nat.mul_comm _ _),
    decimalValue_le hp, Nat.div_add_mod' _ _, Nat.mod_lt _ (by positivity)⟩

/-! The rendering (R185) -/

theorem padZeros_eq_leftpad (d : Nat) (text : List Char) : padZeros d text = text.leftpad d '0' := rfl

/-- Text that fits its width is padded to exactly that width. -/
theorem length_padZeros {d : Nat} {text : List Char} (h : text.length ≤ d) :
    (padZeros d text).length = d := by
  rw [padZeros_eq_leftpad, List.length_leftpad, Nat.max_eq_left h]

/-- Zeros on the left leave the number that decimal text stands for. -/
theorem ofDigitChars_padZeros (d : Nat) (text : List Char) :
    Nat.ofDigitChars 10 (padZeros d text) 0 = Nat.ofDigitChars 10 text 0 := by
  rw [padZeros, Nat.ofDigitChars_append, Nat.ofDigitChars_replicate_zero, Nat.mul_zero]

theorem isDigit_of_mem_padZeros {d n : Nat} {c : Char} (h : c ∈ padZeros d (Nat.toDigits 10 n)) :
    c.isDigit = true := by
  rcases List.mem_append.1 h with hpad | hdigits
  · rw [List.eq_of_mem_replicate hpad]; rfl
  · exact Nat.isDigit_of_mem_toDigits (by decide) (by decide) hdigits

theorem isDigit_bounds {c : Char} (h : c.isDigit = true) :
    '0'.toNat ≤ c.toNat ∧ c.toNat ≤ '9'.toNat := by
  simpa [Char.isDigit, UInt32.le_iff_toNat_le] using h

/-- The number that decimal text stands for, in the order of multiplication that the statement uses. -/
theorem foldl_digits_eq_ofDigitChars (text : List Char) :
    text.foldl (fun v c => v * 10 + (c.toNat - '0'.toNat)) 0 = Nat.ofDigitChars 10 text 0 := by
  rw [Nat.ofDigitChars_eq_foldl]
  simp only [Nat.mul_comm]

theorem render_integer (int frac : Nat) : render int frac 0 = Nat.toDigits 10 int := if_pos rfl

theorem render_fraction {d : Nat} (hd : 1 ≤ d) (int frac : Nat) :
    render int frac d = Nat.toDigits 10 int ++ '.' :: padZeros d (Nat.toDigits 10 frac) :=
  if_neg (by omega)

/-- Settles O41: the fraction has at most the band's digits, so the padding fills it up exactly and keeps
its value. -/
theorem renderingPadsTheFraction : Obligations.RenderingPadsTheFraction := by
  refine fun int frac d => ⟨render_integer int frac, fun hd hfrac =>
    ⟨padZeros d (Nat.toDigits 10 frac), render_fraction hd int frac,
      length_padZeros (Nat.toDigits_length 10 frac d hd hfrac),
      fun c hc => isDigit_bounds (isDigit_of_mem_padZeros hc), ?value⟩⟩
  rw [foldl_digits_eq_ofDigitChars, ofDigitChars_padZeros, Nat.ofDigitChars_ten_toDigits]

end Sys2Proof.Machine
end

section
/-! A MEASURE's gate passes (42_measure.md R162 to R170): the start, the sequencer's turn at the end of each
window, and the edges that a window counts. -/

namespace Sys2Proof.Machine

/-! The start (R162, R163) -/

/-- Settles O24. -/
theorem measureInPwmModeConflicts : Obligations.MeasureInPwmModeConflicts := by
  intro s hpwm
  rw [exec, execMeasure, hpwm]
  rfl

/-- Settles O25: TimingReset's detach keeps LATCH, so the pin is bound as it was. -/
theorem measureInIoModeStarts : Obligations.MeasureInIoModeStarts := by
  intro s hio
  rw [exec_measure_of_io hio, ← bind_detach s.pin]
  rfl

/-! Steps at ticks, at edges and at a turn of the sequencer -/

theorem step_ticks {s : State} {n : Nat} {rest : List Input} (hi : s.inputs = .ticks n :: rest) :
    step s = .next (passTicks n { s with inputs := rest }) := step_input hi

theorem step_edges {s : State} {n : Nat} {rest : List Input} (hi : s.inputs = .edges n :: rest) :
    step s = .next (passEdges n { s with inputs := rest }) := step_input hi

theorem step_sequencer {s : State} {rest : List Input} (hi : s.inputs = .sequencer :: rest) :
    step s = .next (seqTurn { s with inputs := rest }) := step_input hi

/-! The sequencer's turn in a gate phase -/

theorem seqTurn_gate1 {s : State} (hseq : s.seq = .gate1) (hexp : s.gate.expired = true) :
    seqTurn s = gate1Step s := by
  rw [seqTurn, hseq]; exact if_pos hexp

theorem seqTurn_gate2 {s : State} (hseq : s.seq = .gate2) (hexp : s.gate.expired = true) :
    seqTurn s = gate2Step s := by
  rw [seqTurn, hseq]; exact if_pos hexp

/-- Before the window's end a gate phase waits (R164). -/
theorem waits_of_open_window {s : State} (hseq : gatePhase s.seq = true)
    (hopen : s.gate.expired = false) : s.waits :=
  .inr (.inl ⟨hseq, hopen⟩)

theorem step_gate1 {s : State} {rest : List Input} (hi : s.inputs = .sequencer :: rest)
    (hseq : s.seq = .gate1) (hexp : s.gate.expired = true) :
    step s = .next (gate1Step { s with inputs := rest }) :=
  (step_sequencer hi).trans (congrArg Host.Outcome.next (seqTurn_gate1 hseq hexp))

theorem step_gate2 {s : State} {rest : List Input} (hi : s.inputs = .sequencer :: rest)
    (hseq : s.seq = .gate2) (hexp : s.gate.expired = true) :
    step s = .next (gate2Step { s with inputs := rest }) :=
  (step_sequencer hi).trans (congrArg Host.Outcome.next (seqTurn_gate2 hseq hexp))

/-- A turn without an enabled step is used up (log 17). -/
theorem step_sequencer_of_waits {s : State} {rest : List Input} (hi : s.inputs = .sequencer :: rest)
    (hwaits : s.waits) : step s = .next { s with inputs := rest } := by
  have hstay : seqTurn { s with inputs := rest } = { s with inputs := rest } := seqTurn_of_waits hwaits
  rw [step_sequencer hi, hstay]

/-! The first pass decides (R165, R166, R184) -/

theorem finishCount_of_fits {v : Nat} (h : v < 2 ^ 32) (s : State) :
    finishCount v s = exitMeasure .measured v 0 0 s := if_pos h

theorem finishCount_of_overflows {v : Nat} (h : 2 ^ 32 ≤ v) (s : State) :
    finishCount v s = exitMeasureFail s := if_neg (by omega)

/-- A first count past 0x3FFF is accepted times 256 where that fits 32 bits. -/
theorem gate1Step_of_accepted {s : State} (hhigh : 0x3FFF < s.gate.count.toNat)
    (hfits : s.gate.count.toNat * 256 < 2 ^ 32) :
    gate1Step s =
      exitMeasure .measured (s.gate.count.toNat * 256) 0 0
        { s with obs := { s.obs with raw1 := s.gate.count } } :=
  (if_pos hhigh).trans (finishCount_of_fits hfits _)

theorem gate1Step_of_overflow {s : State} (hhigh : 0x3FFF < s.gate.count.toNat)
    (hover : 2 ^ 32 ≤ s.gate.count.toNat * 256) :
    gate1Step s = exitMeasureFail { s with obs := { s.obs with raw1 := s.gate.count } } :=
  (if_pos hhigh).trans (finishCount_of_overflows hover _)

/-- A first count of at most 0x3FFF arms the second pass with the autorange notice. -/
theorem gate1Step_of_low {s : State} (h : s.gate.count.toNat ≤ 0x3FFF) :
    gate1Step s =
      { arm .r1 s with
        obs := { s.obs with raw1 := s.gate.count }
        status := { s.status with autorange := true }
        seq := .gate2 } :=
  if_neg (by omega)

/-- Settles O27. -/
theorem firstGatePassDecides : Obligations.FirstGatePassDecides := by
  intro s rest hi hseq
  refine ⟨fun hopen => ?waits, fun hexp hlow => ?rearms, fun hexp hhigh hfits => ?accepts,
    fun hexp hhigh hover => ?fails⟩
  case waits => exact step_sequencer_of_waits hi (waits_of_open_window (by rw [hseq]; rfl) hopen)
  case rearms => exact (step_gate1 hi hseq hexp).trans (congrArg Host.Outcome.next (gate1Step_of_low hlow))
  case accepts =>
    exact (step_gate1 hi hseq hexp).trans
      (congrArg Host.Outcome.next (gate1Step_of_accepted hhigh hfits))
  case fails =>
    exact (step_gate1 hi hseq hexp).trans
      (congrArg Host.Outcome.next (gate1Step_of_overflow hhigh hover))

/-! The second pass decides (R167 to R170) -/

theorem gate2Step_of_zero {s : State} (h : s.gate.count = 0) :
    gate2Step s = exitMeasure .tooLow 0 0 0 { s with obs := { s.obs with raw2 := 0 } } := by
  rw [gate2Step, h]; rfl

/-- A second count past 3999 ends the MEASURE with the count itself, which fits its register. -/
theorem gate2Step_of_many {s : State} (h : 3999 < s.gate.count.toNat) :
    gate2Step s =
      exitMeasure .measured s.gate.count.toNat 0 0
        { s with obs := { s.obs with raw2 := s.gate.count } } := by
  rw [← finishCount_of_fits s.gate.count.isLt]
  exact (if_neg (by omega)).trans (if_pos h)

theorem gate2Step_of_few {s : State} (hpos : 1 ≤ s.gate.count.toNat)
    (hfew : s.gate.count.toNat ≤ 3999) :
    gate2Step s =
      startAverager s.gate.count { s with obs := { s.obs with raw2 := s.gate.count } } :=
  (if_neg (by omega)).trans (if_neg (by omega))

/-- Settles O28. -/
theorem secondGatePassDecides : Obligations.SecondGatePassDecides := by
  intro s rest hi hseq
  refine ⟨fun hopen => ?waits, fun hexp hzero => ?low, fun hexp hmany => ?counts,
    fun hexp hpos hfew => ?averages⟩
  case waits => exact step_sequencer_of_waits hi (waits_of_open_window (by rw [hseq]; rfl) hopen)
  case low =>
    exact (step_gate2 hi hseq hexp).trans (congrArg Host.Outcome.next (gate2Step_of_zero hzero))
  case counts =>
    have hturn := gate2Step_of_many (s := { s with inputs := rest }) hmany
    rw [exitMeasure, BitVec.ofNat_toNat, BitVec.setWidth_eq] at hturn
    exact (step_gate2 hi hseq hexp).trans (congrArg Host.Outcome.next hturn)
  case averages => exact (step_gate2 hi hseq hexp).trans (congrArg Host.Outcome.next (gate2Step_of_few hpos hfew))

/-! The edges of a window (R164) -/

/-- The gate's window has run for so many source ticks, has not ended, and has seen so many edges at
ratio `r`. -/
structure Gate.HasCounted (g : Gate) (r : Ratio) (ticks edges : Nat) : Prop where
  timer : g.refTimer = .running ticks
  opened : g.expired = false
  ratio : g.ratio = r
  count : g.count.toNat = edges / ratioTicks r % 2 ^ 32
  prescaler : g.prescaler = edges % ratioTicks r

theorem hasCounted_of_armed {g : Gate} {r : Ratio}
    (h : g = { count := 0, prescaler := 0, ratio := r, refTimer := .running 0, expired := false }) :
    g.HasCounted r 0 0 := by
  subst h
  exact ⟨rfl, rfl, rfl, by simp, by simp⟩

theorem Gate.HasCounted.ticks {g : Gate} {r : Ratio} {ticks edges n window : Nat}
    (h : g.HasCounted r ticks edges) (hopen : ticks + n < window) :
    (advanceRefTimer window n g).HasCounted r (ticks + n) edges := by
  rw [advanceRefTimer_running h.timer]
  exact ⟨by rw [Nat.min_eq_left hopen.le], by simp [h.opened, hopen], h.ratio, h.count, h.prescaler⟩

/-- A quotient and a remainder are enough to go on counting. -/
theorem div_add_mod_add_div {r : Nat} (hr : 0 < r) (a b : Nat) : a / r + (a % r + b) / r = (a + b) / r := by
  conv_rhs => rw [← Nat.mod_add_div a r, Nat.add_right_comm, Nat.add_mul_div_left _ _ hr]
  rw [Nat.add_comm]

theorem Gate.HasCounted.edges {g : Gate} {r : Ratio} {ticks edges : Nat}
    (h : g.HasCounted r ticks edges) (n : Nat) :
    (countEdges n g).HasCounted r ticks (edges + n) := by
  have hcounts : gateCounts g = true := by simp [gateCounts, h.timer, h.opened]
  rw [countEdges, if_pos hcounts]
  refine ⟨h.timer, h.opened, h.ratio, ?count, by simp [h.ratio, h.prescaler]⟩
  rw [BitVec.toNat_add, BitVec.toNat_ofNat, h.count, h.prescaler, h.ratio, ← Nat.add_mod,
    div_add_mod_add_div (ratioTicks_pos r)]

/-- The window's end keeps the counters and sets the flag (10_state.md R43). -/
theorem Gate.HasCounted.ends {g : Gate} {r : Ratio} {ticks edges n window : Nat}
    (h : g.HasCounted r ticks edges) (hend : window ≤ ticks + n) :
    advanceRefTimer window n g = { g with refTimer := .running window, expired := true } := by
  rw [advanceRefTimer_running h.timer, Nat.min_eq_right hend, decide_eq_true hend, Bool.or_true]

@[simp] theorem ticksOf_ticks (n : Nat) (xs : List Input) :
    ticksOf (.ticks n :: xs) = n + ticksOf xs := rfl
@[simp] theorem ticksOf_edges (n : Nat) (xs : List Input) : ticksOf (.edges n :: xs) = ticksOf xs := rfl
@[simp] theorem edgesOf_ticks (n : Nat) (xs : List Input) : edgesOf (.ticks n :: xs) = edgesOf xs := rfl
@[simp] theorem edgesOf_edges (n : Nat) (xs : List Input) :
    edgesOf (.edges n :: xs) = n + edgesOf xs := rfl

/-- A window that ticks and edges do not fill counts every edge of theirs. -/
theorem runSteps_counts {r : Ratio} {xs rest : List Input} {s : State} {ticks edges : Nat}
    (hg : s.gate.HasCounted r ticks edges) (hi : s.inputs = xs ++ rest)
    (hxs : ∀ x ∈ xs, timeOrEdges x = true) (hopen : ticks + ticksOf xs < s.params.gateTicks) :
    ∃ t, runSteps xs.length s = .next t ∧ t.inputs = rest ∧ t.params = s.params
      ∧ t.gate.HasCounted r (ticks + ticksOf xs) (edges + edgesOf xs) := by
  induction xs generalizing s ticks edges with
  | nil => exact ⟨s, rfl, hi, rfl, hg⟩
  | cons x xs ih =>
    obtain ⟨hx, htail⟩ := List.forall_mem_cons.1 hxs
    rw [List.length_cons]
    cases x with
    | ticks n =>
      rw [runSteps_of_step (step_ticks hi)]
      rw [ticksOf_ticks, ← Nat.add_assoc] at hopen ⊢
      have hmore : ticks + n < s.params.gateTicks := by omega
      exact ih (hg.ticks hmore) rfl htail hopen
    | edges n =>
      rw [runSteps_of_step (step_edges hi), edgesOf_edges, ← Nat.add_assoc]
      exact ih (hg.edges n) rfl htail hopen
    | bus | sequencer | level | reset => cases hx

/-- Settles O26: the count so far by induction on the inputs; an expired window counts no more. -/
theorem gateCountsEdgesOfItsWindow : Obligations.GateCountsEdgesOfItsWindow := by
  intro s r xs rest _ hg hi hxs hopen
  obtain ⟨t, hrun, hrest, hparams, hcounted⟩ :=
    runSteps_counts (hasCounted_of_armed hg) hi hxs (by rwa [Nat.zero_add])
  rw [Nat.zero_add, Nat.zero_add] at hcounted
  refine ⟨t, hrun, hrest, hcounted.count, hcounted.opened, fun n hend => ?_⟩
  have hended : (passTicks n t).gate =
      { t.gate with refTimer := .running s.params.gateTicks, expired := true } := by
    rw [passTicks_gate, hparams, hcounted.ends hend]
  exact ⟨by rw [hended], by rw [hended], fun m => countEdges_off (.inr (by rw [hended]))⟩

end Sys2Proof.Machine
end

section
/-! Whole gate phases (42_measure.md R164 to R170, R181, 70_reset_and_hazards.md R268): a window by its edges
and ticks up to the sequencer's turn, one behind the other; and a window left alone. -/

namespace Sys2Proof.Machine

/-! One window -/

/-- `s` behind `e` edges and then all the ticks of a window, with these inputs left. -/
def State.windowEnded (e : Nat) (rest : List Input) (s : State) : State :=
  { passTicks s.params.gateTicks (passEdges e s) with inputs := rest }

theorem runSteps_window {s : State} {e : Nat} {rest : List Input}
    (hi : s.inputs = .edges e :: .ticks s.params.gateTicks :: .sequencer :: rest) :
    runSteps 3 s = .next (seqTurn (s.windowEnded e rest)) := by
  rw [runSteps_of_step (step_edges hi), runSteps_of_step (step_ticks rfl),
    runSteps_of_step (step_sequencer rfl)]
  rfl

/-- A window that began armed has its flag set and has counted its edges, divided by the ratio. -/
theorem windowEnded_gate {s : State} {r : Ratio} (e : Nat) (rest : List Input)
    (hg : s.gate = { count := 0, prescaler := 0, ratio := r, refTimer := .running 0, expired := false }) :
    (s.windowEnded e rest).gate.expired = true
      ∧ (s.windowEnded e rest).gate.count.toNat = e / ratioTicks r % 2 ^ 32 := by
  have hcounted : (countEdges e s.gate).HasCounted r 0 (0 + e) := (hasCounted_of_armed hg).edges e
  have hended : (s.windowEnded e rest).gate =
      { countEdges e s.gate with refTimer := .running s.params.gateTicks, expired := true } :=
    hcounted.ends (Nat.le_add_left _ 0)
  rw [hended]
  exact ⟨rfl, by rw [hcounted.count, Nat.zero_add]⟩

/-! Both windows of a MEASURE -/

/-- `s` behind a MEASURE's acceptance and its first window of `e` edges. -/
def State.afterFirstWindow (e : Nat) (rest : List Input) (s : State) : State :=
  (startMeasure (accept (encode .measure) s)).windowEnded e rest

theorem afterFirstWindow_gate (e : Nat) (rest : List Input) (s : State) :
    (s.afterFirstWindow e rest).gate.expired = true
      ∧ (s.afterFirstWindow e rest).gate.count.toNat = e / 256 % 2 ^ 32 :=
  windowEnded_gate (s := startMeasure (accept (encode .measure) s)) (r := .r256) e rest rfl

theorem runSteps_firstWindow {s : State} {e : Nat} {rest : List Input} (hb : s.status.busy = false)
    (hio : s.status.mode = .io)
    (hi : s.inputs =
      cmdWrite s.params (encode .measure) :: .edges e :: .ticks s.params.gateTicks :: .sequencer :: rest) :
    runSteps 4 s = .next (gate1Step (s.afterFirstWindow e rest)) := by
  have hstart : step s = .next (startMeasure (accept (encode .measure)
      { s with inputs := .edges e :: .ticks s.params.gateTicks :: .sequencer :: rest })) := by
    rw [step_accepted hi hb, runWord_of_decode (encodedCommandDecodes .measure rfl)]
    exact exec_measure_of_io hio
  rw [runSteps_of_step hstart, runSteps_window rfl]
  exact congrArg Host.Outcome.next (seqTurn_gate1 rfl (afterFirstWindow_gate e rest s).1)

/-- A state whose first count was low, with the second pass armed (R165). -/
def State.rearmed (s : State) : State :=
  { arm .r1 s with
    obs := { s.obs with raw1 := s.gate.count }
    status := { s.status with autorange := true }
    seq := .gate2 }

/-- `s` behind a MEASURE's acceptance and two windows of `e1` and `e2` edges, the first count low. -/
def State.afterSecondWindow (e1 e2 : Nat) (rest : List Input) (s : State) : State :=
  (s.afterFirstWindow e1 rest).rearmed.windowEnded e2 rest

theorem afterSecondWindow_gate (e1 e2 : Nat) (rest : List Input) (s : State) :
    (s.afterSecondWindow e1 e2 rest).gate.expired = true
      ∧ (s.afterSecondWindow e1 e2 rest).gate.count.toNat = e2 % 2 ^ 32 := by
  obtain ⟨hexp, hcount⟩ := windowEnded_gate (s := (s.afterFirstWindow e1 rest).rearmed) e2 rest rfl
  exact ⟨hexp, hcount.trans (by rw [ratioTicks, Nat.div_one])⟩

theorem runSteps_secondWindow {s : State} {e1 e2 : Nat} {rest : List Input}
    (hb : s.status.busy = false) (hio : s.status.mode = .io)
    (hi : s.inputs =
      cmdWrite s.params (encode .measure) :: .edges e1 :: .ticks s.params.gateTicks :: .sequencer
        :: .edges e2 :: .ticks s.params.gateTicks :: .sequencer :: rest)
    (hlow : e1 / 256 % 2 ^ 32 ≤ 0x3FFF) :
    runSteps 7 s = .next (gate2Step (s.afterSecondWindow e1 e2 rest)) := by
  have hfirst := runSteps_firstWindow hb hio hi
  rw [gate1Step_of_low ((afterFirstWindow_gate e1 _ s).2.trans_le hlow)] at hfirst
  rw [runSteps_add 3 hfirst, runSteps_window rfl]
  exact congrArg Host.Outcome.next (seqTurn_gate2 rfl (afterSecondWindow_gate e1 e2 rest s).1)

/-- Settles O36: the two windows' counts, then each clause by what the gate's turn does with its count. -/
theorem countedSignalIsReported : Obligations.CountedSignalIsReported := by
  intro s rest e1 e2 raw1 raw2 hb hio hi hraw1 hraw2
  subst hraw1 hraw2
  simp only [List.cons_append, List.nil_append] at hi
  have hcount1 := (afterFirstWindow_gate e1
    (.edges e2 :: .ticks s.params.gateTicks :: .sequencer :: rest) s).2
  have hcount2 := (afterSecondWindow_gate e1 e2 rest s).2
  have hfirst := runSteps_firstWindow hb hio hi
  have hsecond := runSteps_secondWindow hb hio hi
  refine ⟨fun hhigh hfits => ?accepted, fun hhigh hover => ?overflow, fun hlow hzero => ?tooLow,
    fun hlow hmany => ?counted, fun hlow hpos hfew => ?averager⟩
  case accepted =>
    rw [← hcount1] at hhigh hfits ⊢
    rw [gate1Step_of_accepted hhigh hfits] at hfirst
    exact ⟨_, hfirst, rfl, rfl, rfl, rfl⟩
  case overflow =>
    rw [← hcount1] at hhigh hover
    rw [gate1Step_of_overflow hhigh hover] at hfirst
    exact ⟨_, hfirst, rfl, rfl, rfl, rfl, rfl⟩
  case tooLow =>
    specialize hsecond hlow
    rw [gate2Step_of_zero (BitVec.eq_of_toNat_eq (hcount2.trans hzero))] at hsecond
    exact ⟨_, hsecond, rfl, rfl, rfl, rfl⟩
  case counted =>
    specialize hsecond hlow
    rw [← hcount2] at hmany ⊢
    rw [gate2Step_of_many hmany] at hsecond
    exact ⟨_, hsecond, rfl, rfl, rfl, rfl⟩
  case averager =>
    specialize hsecond hlow
    rw [← hcount2] at hpos hfew ⊢
    rw [gate2Step_of_few hpos hfew] at hsecond
    exact ⟨_, hsecond, rfl, rfl, rfl, rfl, rfl, rfl⟩

/-! A window left alone (R268, log 3) -/

/-- Ticks in two inputs are ticks in one: the timer stays at its window's end (log 15). -/
theorem advanceRefTimer_add (window m n : Nat) (g : Gate) :
    advanceRefTimer window n (advanceRefTimer window m g) = advanceRefTimer window (m + n) g := by
  cases h : g.refTimer with
  | stopped => rw [advanceRefTimer_stopped h, advanceRefTimer_stopped h, advanceRefTimer_stopped h]
  | running e =>
    rw [advanceRefTimer_running h, advanceRefTimer_running h,
      advanceRefTimer_running (e := min (e + m) window) rfl]
    have htimer : min (min (e + m) window + n) window = min (e + (m + n)) window := by omega
    have hflag : (window ≤ e + m ∨ window ≤ min (e + m) window + n) ↔ window ≤ e + (m + n) := by omega
    rw [htimer, Bool.or_assoc, ← Bool.decide_or, decide_eq_decide.2 hflag]

theorem advanceTimestamp_add (m n : Nat) (c : Capture) :
    advanceTimestamp n (advanceTimestamp m c) = advanceTimestamp (m + n) c := by
  cases hen : c.enabled with
  | false => rw [advanceTimestamp_off hen, advanceTimestamp_off hen, advanceTimestamp_off hen]
  | true => simp [advanceTimestamp, hen, BitVec.add_assoc, BitVec.ofNat_add]

theorem passTicks_add (m n : Nat) (s : State) : passTicks n (passTicks m s) = passTicks (m + n) s := by
  simp only [passTicks, advanceGenerator_add, advanceRefTimer_add, advanceTimestamp_add]

/-- A block without input lets one tick after the other pass while its sequencer waits. -/
theorem runSteps_of_waits {k : Nat} {s : State} (hi : s.inputs = []) (hnow : s.waits)
    (hlater : ∀ j < k, (passTicks (j + 1) s).waits) :
    runSteps (k + 1) s = .next (passTicks (k + 1) s) := by
  induction k with
  | zero => exact runSteps_of_step (step_of_waits hi hnow)
  | succ k ih =>
    rw [runSteps_add 1 (ih fun j hj => hlater j (by omega)),
      runSteps_of_step (step_of_waits (s := passTicks (k + 1) s) hi (hlater k (by omega))),
      runSteps_zero, passTicks_add]

/-- Before its end a window that runs alone waits, and at its end the flag is set. -/
theorem passTicks_expired {s : State} {e : Nat} (hrun : s.gate.refTimer = .running e)
    (hopen : s.gate.expired = false) (n : Nat) :
    (passTicks n s).gate.expired = decide (s.params.gateTicks ≤ e + n) := by
  rw [passTicks_gate, advanceRefTimer_running hrun, hopen, Bool.false_or]

theorem step_of_enabled {s : State} (hi : s.inputs = []) (h : seqEnabled s = true) :
    step s = .next (seqTurn s) := by
  rw [step, hi]
  exact congrArg Host.Outcome.next (if_pos h)

theorem seqEnabled_of_expired {s : State} (hseq : gatePhase s.seq = true)
    (hexp : s.gate.expired = true) : seqEnabled s = true := by
  cases h : s.seq with
  | gate1 | gate2 => rw [seqEnabled, h]; exact hexp
  | idle | avgFirst | avgLoop => rw [h] at hseq; cases hseq

/-- A count that ends a MEASURE leaves the observation registers as the turn set them. -/
theorem finishCount_exits (v : Nat) (s : State) :
    (finishCount v s).seq = .idle ∧ (finishCount v s).obs = s.obs := by
  rcases finishCount_cases v s with ⟨-, h⟩ | ⟨-, h⟩ <;> rw [h] <;> exact ⟨rfl, rfl⟩

theorem gate1Step_leaves (s : State) :
    (gate1Step s).seq ≠ .gate1 ∧ (gate1Step s).obs = { s.obs with raw1 := s.gate.count } := by
  rcases gate1Step_cases s with ⟨-, h⟩ | ⟨-, h⟩ <;> rw [h]
  · obtain ⟨hidle, hobs⟩ := finishCount_exits (s.gate.count.toNat * 256)
      { s with obs := { s.obs with raw1 := s.gate.count } }
    exact ⟨by simp [hidle], hobs⟩
  · exact ⟨by simp, rfl⟩

theorem gate2Step_leaves (s : State) :
    (gate2Step s).seq ≠ .gate2 ∧ (gate2Step s).obs.raw1 = s.obs.raw1
      ∧ (gate2Step s).obs.raw2 = s.gate.count := by
  rcases gate2Step_cases s with ⟨-, h⟩ | ⟨-, h⟩ | ⟨-, -, h⟩ <;> rw [h]
  · exact ⟨by simp, rfl, rfl⟩
  · obtain ⟨hidle, hobs⟩ := finishCount_exits s.gate.count.toNat
      { s with obs := { s.obs with raw2 := s.gate.count } }
    exact ⟨by simp [hidle], by rw [hobs], by rw [hobs]⟩
  · exact ⟨by simp, rfl, rfl⟩

/-- The end of a gate phase leads to another phase and shows the count of its own window alone. -/
theorem seqTurn_of_expired {s : State} (hseq : gatePhase s.seq = true) (hexp : s.gate.expired = true) :
    (seqTurn s).seq ≠ s.seq
      ∧ (seqTurn s).obs.raw1 = (if s.seq = .gate1 then s.gate.count else s.obs.raw1)
      ∧ (seqTurn s).obs.raw2 = (if s.seq = .gate2 then s.gate.count else s.obs.raw2) := by
  cases h : s.seq with
  | gate1 =>
    obtain ⟨hleaves, hobs⟩ := gate1Step_leaves s
    rw [seqTurn_gate1 h hexp, hobs]
    exact ⟨hleaves, rfl, rfl⟩
  | gate2 =>
    rw [seqTurn_gate2 h hexp]
    exact gate2Step_leaves s
  | idle | avgFirst | avgLoop => rw [h] at hseq; cases hseq

/-- Settles O38: the block waits tick by tick to the end of its window, and its next step is the
sequencer's. -/
theorem gateWindowAlwaysEnds : Obligations.GateWindowAlwaysEnds := by
  intro s e hseq hrun hopen hlt hi
  obtain ⟨k, hk⟩ := Nat.exists_eq_add_of_lt hlt
  have hexpired := passTicks_expired hrun hopen
  have hwait : runSteps (k + 1) s = .next (passTicks (k + 1) s) := by
    refine runSteps_of_waits hi (waits_of_open_window hseq hopen) fun j hj => ?_
    refine waits_of_open_window hseq ((hexpired (j + 1)).trans (decide_eq_false ?_))
    omega
  have hend : (passTicks (k + 1) s).gate.expired = true :=
    (hexpired (k + 1)).trans (decide_eq_true (by omega))
  have hturn := seqTurn_of_expired (s := passTicks (k + 1) s) hseq hend
  rw [passTicks_gate, advanceRefTimer_count] at hturn
  refine ⟨_, ?_, hturn⟩
  have hsteps : s.params.gateTicks - e = k + 1 := by omega
  rw [hsteps, runSteps_add 1 hwait]
  exact runSteps_of_step (step_of_enabled hi (seqEnabled_of_expired hseq hend))

end Sys2Proof.Machine
end

section
/-! The averager (42_measure.md R171 to R174, R161, R182): the sequencer's turn at a capture, a whole run over
a signal's intervals, the captures that can come, and the wait for one that does not. -/

namespace Sys2Proof.Machine

/-! The sequencer's turn at a capture (R171 to R174) -/

theorem withCapture_cons {phase : Word → State → State} {s : State} {x : Word} {b : List Word}
    (hbuf : s.capture.buffer = x :: b) :
    withCapture phase s = phase x { s with capture := { s.capture with buffer := b } } := by
  rw [withCapture, hbuf]

theorem seqTurn_avgFirst {s : State} (hseq : s.seq = .avgFirst) :
    seqTurn s = withCapture avgFirstStep s := by
  rw [seqTurn, hseq]

theorem seqTurn_avgLoop {s : State} (hseq : s.seq = .avgLoop) :
    seqTurn s = withCapture avgLoopStep s := by
  rw [seqTurn, hseq]

/-- Settles O29. -/
theorem firstCaptureIsBaseline : Obligations.FirstCaptureIsBaseline := by
  intro s rest x b hi hseq hbuf
  rw [step_sequencer hi, seqTurn_avgFirst (by exact hseq), withCapture_cons (by exact hbuf)]
  rfl

/-- The wrap-around subtraction of R172, in the numbers. -/
theorem interval_toNat (prev x : Word) :
    (interval prev x).toNat = (x.toNat + 2 ^ 32 - prev.toNat) % 2 ^ 32 := by
  have hprev := prev.isLt
  rw [interval, BitVec.toNat_sub]
  congr 1
  omega

/-- An interval as a summand of the 64-bit sum. -/
theorem interval_setWidth (prev x : Word) :
    (interval prev x).setWidth 64 =
      BitVec.ofNat 64 ((x.toNat + 2 ^ 32 - prev.toNat) % 2 ^ 32) := by
  rw [← interval_toNat, BitVec.ofNat_toNat]

/-- The two observation words are the halves of the sum (10_state.md R41). -/
theorem sum_low_eq (v : BitVec 64) : v.extractLsb' 0 32 = BitVec.ofNat 32 v.toNat := rfl

theorem sum_high_eq (v : BitVec 64) : v.extractLsb' 32 32 = BitVec.ofNat 32 (v.toNat / 2 ^ 32) := by
  rw [BitVec.extractLsb', Nat.shiftRight_eq_div_pow]

theorem accumulate_eq {x : Word} {s : State} {sum : BitVec 64}
    (h : sum = s.avg.sum + (interval s.avg.prev x).setWidth 64) :
    accumulate x s =
      { s with
        avg := { s.avg with prev := x, i := s.avg.i + 1, sum := sum }
        obs := { s.obs with
          sumLo := BitVec.ofNat 32 sum.toNat, sumHi := BitVec.ofNat 32 (sum.toNat / 2 ^ 32) } } := by
  rw [← sum_low_eq, ← sum_high_eq, h]
  rfl

theorem avgLoopStep_of_more {x : Word} {s : State} (h : s.avg.i + 1 ≠ s.avg.n) :
    avgLoopStep x s = accumulate x s := if_neg h

theorem avgLoopStep_of_last {x : Word} {s : State} (h : s.avg.i + 1 = s.avg.n) :
    avgLoopStep x s = takeMean (accumulate x s) := if_pos h

theorem takeMean_of_zero {s : State} (h : s.avg.sum.toNat / s.avg.n.toNat = 0) :
    takeMean s = exitMeasureFail { s with obs := { s.obs with mean := 0 } } := by
  rw [takeMean, h]; rfl

theorem takeMean_of_pos {s : State} {p : Nat} (hp : p = s.avg.sum.toNat / s.avg.n.toNat)
    (hpos : 1 ≤ p) :
    takeMean s =
      exitMeasure .measured (decimalInt p) (decimalFrac p) (decimalBand p)
        { s with obs := { s.obs with mean := BitVec.ofNat 32 p } } := by
  subst hp
  exact if_neg (by omega)

/-- Settles O30. -/
theorem eachCaptureAddsItsInterval : Obligations.EachCaptureAddsItsInterval := by
  intro s rest x b sum p hi hseq hbuf hsum hp
  rw [← interval_setWidth] at hsum
  have hstep : step s = .next (avgLoopStep x
      { s with inputs := rest, capture := { s.capture with buffer := b } }) := by
    rw [step_sequencer hi, seqTurn_avgLoop (by exact hseq), withCapture_cons (by exact hbuf)]
  have hacc := accumulate_eq
    (s := { s with inputs := rest, capture := { s.capture with buffer := b } }) hsum
  refine ⟨fun hmore => ?more, fun hlast hzero => ?fails, fun hlast hpos => ?measures⟩
  case more => rw [hstep, avgLoopStep_of_more (by exact hmore), hacc]
  case fails =>
    rw [hstep, avgLoopStep_of_last (by exact hlast), hacc,
      takeMean_of_zero (by exact hp.symm.trans hzero)]
    rfl
  case measures =>
    rw [hstep, avgLoopStep_of_last (by exact hlast), hacc, takeMean_of_pos (by exact hp) hpos]
    rfl

/-! An edge that the sequencer takes at once -/

/-- A free capture pair takes an edge's timestamp, whatever its depth (10_state.md R44). -/
theorem captureEdges_one {c : Capture} (hen : c.enabled = true) (hbuf : c.buffer = []) :
    captureEdges 1 c = { c with buffer := [c.timestamp] } := by
  rw [captureEdges, if_pos hen, hbuf, pushCaptures, pushCapture_nil]
  rfl

/-- The capture of one edge, taken at once, leaves the buffer free as it was. -/
theorem withCapture_passEdges (phase : Word → State → State) {s : State}
    (hen : s.capture.enabled = true) (hbuf : s.capture.buffer = []) :
    withCapture phase (passEdges 1 s) =
      phase s.capture.timestamp { s with gate := countEdges 1 s.gate } := by
  have hcap := captureEdges_one hen hbuf
  have hfree : { captureEdges 1 s.capture with buffer := [] } = s.capture := by rw [hcap, ← hbuf]
  rw [withCapture_cons (x := s.capture.timestamp) (b := []) (by rw [passEdges_capture, hcap]),
    passEdges_capture, hfree]
  rfl

theorem runSteps_edge {s : State} {rest : List Input}
    (hi : s.inputs = .edges 1 :: .sequencer :: rest) :
    runSteps 2 s = .next (seqTurn (passEdges 1 { s with inputs := rest })) := by
  rw [runSteps_of_step (step_edges hi), runSteps_of_step (step_sequencer rfl)]
  rfl

/-! A whole run over a signal (R171 to R174, R177) -/

/-- The sequencer is in AVG_LOOP and waits, with `k` intervals of this total behind it and the last capture
as the previous one. -/
structure State.AveragesAt (s : State) (k total : Nat) : Prop where
  seq : s.seq = .avgLoop
  enabled : s.capture.enabled = true
  buffer : s.capture.buffer = []
  prev : s.avg.prev = s.capture.timestamp
  count : s.avg.i.toNat = k
  sum : s.avg.sum.toNat = total
  bound : total ≤ k * (2 ^ 32 - 1)

/-- The first edge of a signal is the baseline (R171). -/
theorem runSteps_baseline {s : State} {rest : List Input} (hseq : s.seq = .avgFirst)
    (hen : s.capture.enabled = true) (hbuf : s.capture.buffer = [])
    (hi : s.inputs = .edges 1 :: .sequencer :: rest) :
    ∃ t, runSteps 2 s = .next t ∧ t.inputs = rest ∧ t.AveragesAt 0 0 ∧ t.avg.n = s.avg.n
      ∧ t.result = s.result := by
  have hturn := (seqTurn_avgFirst (s := passEdges 1 { s with inputs := rest }) hseq).trans
    (withCapture_passEdges avgFirstStep (s := { s with inputs := rest }) hen hbuf)
  refine ⟨_, (runSteps_edge hi).trans (congrArg Host.Outcome.next hturn), rfl, ?_, rfl, rfl⟩
  exact ⟨rfl, hen, hbuf, rfl, rfl, rfl, Nat.zero_le _⟩

/-- `s` behind `d` ticks and an edge whose capture has been taken, with these inputs left. -/
def State.afterInterval (d : Nat) (rest : List Input) (s : State) : State :=
  { passTicks d s with gate := countEdges 1 (passTicks d s).gate, inputs := rest }

theorem advanceTimestamp_on {n : Nat} {c : Capture} (h : c.enabled = true) :
    advanceTimestamp n c = { c with timestamp := c.timestamp + BitVec.ofNat 32 n } := if_pos h

theorem runSteps_interval {s : State} {k total d : Nat} {rest : List Input}
    (h : s.AveragesAt k total) (hi : s.inputs = .ticks d :: .edges 1 :: .sequencer :: rest) :
    runSteps 3 s = .next
      (avgLoopStep (s.capture.timestamp + BitVec.ofNat 32 d) (s.afterInterval d rest)) := by
  have hturn := withCapture_passEdges avgLoopStep (s := passTicks d { s with inputs := rest })
    (by simpa using h.enabled) (by simpa using h.buffer)
  have hstamp : (passTicks d s).capture.timestamp = s.capture.timestamp + BitVec.ofNat 32 d :=
    congrArg Capture.timestamp (advanceTimestamp_on h.enabled)
  rw [runSteps_of_step (step_ticks hi), runSteps_edge rfl, seqTurn_avgLoop (by exact h.seq), ← hstamp]
  exact congrArg Host.Outcome.next hturn

theorem interval_add_ofNat (t : Word) {d : Nat} (hd : d < 2 ^ 32) :
    (interval t (t + BitVec.ofNat 32 d)).toNat = d := by
  rw [interval, add_sub_cancel_left, BitVec.toNat_ofNat, Nat.mod_eq_of_lt hd]

/-- One interval more: neither the count nor the 64-bit sum wraps (R172). -/
theorem State.AveragesAt.accumulate {s : State} {k total d : Nat} (h : s.AveragesAt k total)
    (hd : d < 2 ^ 32) (hk : k < 3999) (rest : List Input) :
    (accumulate (s.capture.timestamp + BitVec.ofNat 32 d) (s.afterInterval d rest)).AveragesAt
      (k + 1) (total + d) := by
  have hint : (interval s.avg.prev (s.capture.timestamp + BitVec.ofNat 32 d)).toNat = d := by
    rw [h.prev, interval_add_ofNat _ hd]
  have hbound := h.bound
  refine ⟨h.seq, ?enabled, ?buffer, ?prev, ?count, ?sum, by omega⟩
  case enabled => exact (advanceTimestamp_enabled d s.capture).trans h.enabled
  case buffer => exact (advanceTimestamp_buffer d s.capture).trans h.buffer
  case prev => exact (congrArg Capture.timestamp (advanceTimestamp_on h.enabled)).symm
  case count =>
    change (s.avg.i + 1).toNat = k + 1
    have hcount := h.count
    bv_omega
  case sum =>
    change (s.avg.sum
      + (interval s.avg.prev (s.capture.timestamp + BitVec.ofNat 32 d)).setWidth 64).toNat = total + d
    rw [BitVec.toNat_add, BitVec.toNat_setWidth, hint, h.sum]
    omega

/-- The two observation words show the whole sum (10_state.md R41). -/
theorem accumulate_observed (x : Word) (s : State) :
    (accumulate x s).obs.sumHi.toNat * 2 ^ 32 + (accumulate x s).obs.sumLo.toNat =
      (accumulate x s).avg.sum.toNat := by
  have hlt := (accumulate x s).avg.sum.isLt
  rw [accumulate_eq rfl] at hlt ⊢
  simp only [BitVec.toNat_ofNat]
  omega

/-- What a MEASURE leaves that took the mean of `n` intervals of this total, RESULT having been `before`
(R173, R174, R177). -/
structure State.MeanTaken (before : Result) (total n : Nat) (t : State) : Prop where
  completed : t.completed
  sum : t.obs.sumHi.toNat * 2 ^ 32 + t.obs.sumLo.toNat = total
  mean : t.obs.mean.toNat = total / n
  fails : total / n = 0 → t.status.code = .arith ∧ t.status.eArith = true ∧ t.result = before
  measures : 1 ≤ total / n →
    t.status.code = .measured ∧ t.result.int.toNat = decimalInt (total / n)
      ∧ t.result.frac.toNat = decimalFrac (total / n)
      ∧ t.result.digits.toNat = decimalBand (total / n)

theorem toNat_ofNat_of_fits {w n : Nat} (h : n < 2 ^ w) : (BitVec.ofNat w n).toNat = n :=
  (BitVec.toNat_ofNat n w).trans (Nat.mod_eq_of_lt h)

theorem takeMean_inputs (s : State) : (takeMean s).inputs = s.inputs := by
  rcases takeMean_cases s with ⟨-, h⟩ | ⟨-, h⟩ <;> rw [h] <;> rfl

theorem takeMean_meanTaken {s : State} {n total : Nat} (h : s.AveragesAt n total)
    (hn : s.avg.n.toNat = n) (hpos : 1 ≤ n)
    (hobs : s.obs.sumHi.toNat * 2 ^ 32 + s.obs.sumLo.toNat = total) :
    (takeMean s).MeanTaken s.result total n := by
  have hbound := h.bound
  have hmean : total / n < 2 ^ 32 := Nat.div_lt_of_lt_mul (by omega)
  have hquot : s.avg.sum.toNat / s.avg.n.toNat = total / n := by rw [h.sum, hn]
  by_cases hzero : total / n = 0
  · rw [takeMean_of_zero (hquot.trans hzero)]
    exact ⟨⟨rfl, rfl, rfl⟩, hobs, hzero.symm, fun _ => ⟨rfl, rfl, rfl⟩, fun hone => by omega⟩
  · have hone : 1 ≤ total / n := Nat.pos_of_ne_zero hzero
    have hband := decimalBand_le (total / n)
    rw [takeMean_of_pos hquot.symm hone]
    exact ⟨⟨rfl, rfl, rfl⟩, hobs, toNat_ofNat_of_fits hmean, fun hnone => absurd hnone hzero,
      fun _ => ⟨rfl, toNat_ofNat_of_fits (decimalInt_lt hone),
        toNat_ofNat_of_fits (decimalFrac_lt hone), toNat_ofNat_of_fits (by omega)⟩⟩

theorem length_signalEdges (ds : List Nat) : (signalEdges ds).length = 3 * ds.length := by
  induction ds with
  | nil => rfl
  | cons d ds ih => rw [signalEdges]; simp only [List.length_cons, ih]; omega

/-- The rest of a signal, interval by interval, down to the mean at the last. -/
theorem runSteps_signalEdges {ds : List Nat} {rest : List Input} {s : State} {k total : Nat}
    (h : s.AveragesAt k total) (hn : s.avg.n.toNat = k + ds.length) (hmore : ds ≠ [])
    (hle : k + ds.length ≤ 3999) (hds : ∀ d ∈ ds, d < 2 ^ 32) (hi : s.inputs = signalEdges ds ++ rest) :
    ∃ t, runSteps (3 * ds.length) s = .next t ∧ t.inputs = rest
      ∧ t.MeanTaken s.result (total + ds.sum) (k + ds.length) := by
  induction ds generalizing s k total with
  | nil => exact absurd rfl hmore
  | cons d ds ih =>
    obtain ⟨hd, htail⟩ := List.forall_mem_cons.1 hds
    have hcount : k + (ds.length + 1) = k + 1 + ds.length := by omega
    have hsteps : 3 * (ds.length + 1) = 3 + 3 * ds.length := by omega
    rw [List.length_cons, hcount] at hn hle ⊢
    rw [hsteps, List.sum_cons, ← Nat.add_assoc]
    have hadded := h.accumulate hd (by omega) (signalEdges ds ++ rest)
    have hstep := runSteps_interval h hi
    cases ds with
    | nil =>
      have hlast : s.avg.i + 1 = s.avg.n := BitVec.eq_of_toNat_eq (hadded.count.trans hn.symm)
      rw [avgLoopStep_of_last (by exact hlast)] at hstep
      exact ⟨_, hstep, takeMean_inputs _, takeMean_meanTaken hadded hn (Nat.le_add_left 1 k)
        ((accumulate_observed _ _).trans hadded.sum)⟩
    | cons d' ds =>
      have hnot : s.avg.i + 1 ≠ s.avg.n := fun heq => by
        have hnext : (s.avg.i + 1).toNat = k + 1 := hadded.count
        rw [heq, hn, List.length_cons] at hnext
        omega
      rw [avgLoopStep_of_more (by exact hnot)] at hstep
      rw [runSteps_add _ hstep]
      exact ih hadded hn (List.cons_ne_nil d' ds) hle htail rfl

/-- Every signal of as many intervals as the averager was started with gives their mean. -/
theorem runSteps_signal {s : State} {rest : List Input} {ds : List Nat} (hseq : s.seq = .avgFirst)
    (hen : s.capture.enabled = true) (hbuf : s.capture.buffer = []) (hn : s.avg.n.toNat = ds.length)
    (hpos : 1 ≤ ds.length) (hle : ds.length ≤ 3999) (hds : ∀ d ∈ ds, d < 2 ^ 32)
    (hi : s.inputs = signal ds ++ rest) :
    ∃ t, runSteps (2 + 3 * ds.length) s = .next t ∧ t.inputs = rest
      ∧ t.MeanTaken s.result ds.sum ds.length := by
  obtain ⟨u, hrun, hrest, hu, hun, hresult⟩ := runSteps_baseline hseq hen hbuf hi
  have hmean := runSteps_signalEdges hu (by rw [hun, hn, Nat.zero_add]) (List.length_pos_iff.1 hpos)
    (by omega) hds hrest
  rw [hresult, Nat.zero_add, Nat.zero_add] at hmean
  rwa [runSteps_add _ hrun]

/-- Settles O31. -/
theorem averagerGivesExactMean : Obligations.AveragerGivesExactMean := by
  intro s rest ds hseq hen hbuf hn hpos hle hds hi
  obtain ⟨t, hrun, hrest, ⟨⟨hbusy, hdone, hidle⟩, hsum, hmean, hfails, hmeasures⟩⟩ :=
    runSteps_signal hseq hen hbuf hn hpos hle hds hi
  have hlen : (signal ds).length = 2 + 3 * ds.length := by
    rw [signal, List.length_cons, List.length_cons, length_signalEdges]
    omega
  rw [hlen]
  exact ⟨t, hrun, hrest, hbusy, hdone, hidle, hsum, hmean, hfails, hmeasures⟩

/-- Settles O32: the total of N equal intervals is a multiple of N. -/
theorem equalIntervalsAverageToThemselves : Obligations.EqualIntervalsAverageToThemselves := by
  intro s rest N D hseq hen hbuf hn hpos hle hD hi
  have hlen : (List.replicate N D).length = N := List.length_replicate
  have hquot : (List.replicate N D).sum / (List.replicate N D).length = D := by
    rw [List.sum_replicate_nat, hlen, Nat.mul_div_cancel_left _ hpos]
  obtain ⟨t, hrun, hrest, hmean⟩ := runSteps_signal (ds := List.replicate N D) hseq hen hbuf
    (hn.trans hlen.symm) (hlen.symm ▸ hpos) (hlen.symm ▸ hle)
    (fun d hd => (List.eq_of_mem_replicate hd).symm ▸ hD) hi
  rw [hlen, Nat.add_comm] at hrun
  refine ⟨t, hrun, hrest, hmean.mean.trans hquot, ?code⟩
  split
  · exact (hmean.fails (hquot.trans ‹D = 0›)).1
  · exact (hmean.measures (by rw [hquot]; exact Nat.pos_of_ne_zero ‹D ≠ 0›)).1

/-! The draw of a timestamp (R161) -/

/-- Settles O39: the ticks up to the next edge are as many as the timestamp is away. -/
theorem everyTimestampCanBeDrawn : Obligations.EveryTimestampCanBeDrawn := by
  intro s w rest hen hbuf
  have hstamp : s.capture.timestamp + BitVec.ofNat 32 (w - s.capture.timestamp).toNat = w := by
    rw [BitVec.ofNat_toNat, BitVec.setWidth_eq, add_sub_cancel]
  refine ⟨(w - s.capture.timestamp).toNat, _,
    (runSteps_of_step (step_ticks rfl)).trans (runSteps_of_step (step_edges rfl)), ?_⟩
  rw [passEdges_capture, passTicks_capture, advanceTimestamp_on hen,
    captureEdges_one (by exact hen) (by exact hbuf), hstamp]

/-! The wait for an edge that does not come (R182) -/

/-- An averager without a capture, and no edge and no reset among the inputs. -/
structure State.Hangs (s : State) : Prop where
  phase : averagerPhase s.seq = true
  busy : s.status.busy = true
  buffer : s.capture.buffer = []
  inputs : ∀ x ∈ s.inputs, bringsNoEdge s.params x = true

/-- `t` has the phase, the completion's fields and the averager's registers of `s`. -/
structure State.SameRun (s t : State) : Prop where
  seq : t.seq = s.seq
  code : t.status.code = s.status.code
  result : t.result = s.result
  avg : t.avg = s.avg
  obs : t.obs = s.obs

theorem State.Hangs.waits {s : State} (h : s.Hangs) : s.waits := .inr (.inr ⟨h.phase, h.buffer⟩)

theorem passTicks_hangs (n : Nat) {s : State} (h : s.Hangs) :
    (passTicks n s).Hangs ∧ s.SameRun (passTicks n s) :=
  ⟨⟨h.phase, h.busy, (advanceTimestamp_buffer n s.capture).trans h.buffer, h.inputs⟩,
    rfl, rfl, rfl, rfl, rfl⟩

theorem captureEdges_zero (c : Capture) : captureEdges 0 c = c := by
  unfold captureEdges; split <;> rfl

/-- An input without an edge leaves a hanging averager hanging: a host's access cannot disturb it, and a
turn finds no capture. -/
theorem consume_hangs {x : Input} {s : State} (h : s.Hangs) (hx : bringsNoEdge s.params x = true) :
    ∃ t, consume x s = .next t ∧ t.Hangs ∧ s.SameRun t := by
  cases x with
  | bus a =>
    obtain ⟨t, ht⟩ := busAccess_next hx
    obtain ⟨hframe, hbusy, -, -, hcode⟩ := busAccess_undisturbed ht h.busy
    refine ⟨t, ht, ?_⟩
    rw [hframe]
    exact ⟨⟨h.phase, hbusy.trans h.busy, h.buffer, h.inputs⟩, rfl, hcode, rfl, rfl, rfl⟩
  | sequencer =>
    rw [consume, seqTurn_of_waits h.waits]
    exact ⟨s, rfl, h, rfl, rfl, rfl, rfl, rfl⟩
  | ticks n => exact ⟨_, rfl, passTicks_hangs n h⟩
  | edges n =>
    obtain rfl : n = 0 := of_decide_eq_true hx
    refine ⟨_, rfl, ⟨h.phase, h.busy, ?_, h.inputs⟩, rfl, rfl, rfl, rfl, rfl⟩
    rw [passEdges_capture, captureEdges_zero, h.buffer]
  | level l => exact ⟨_, rfl, ⟨h.phase, h.busy, h.buffer, h.inputs⟩, rfl, rfl, rfl, rfl, rfl⟩
  | reset => cases hx

theorem step_hangs {s : State} (h : s.Hangs) : ∃ t, step s = .next t ∧ t.Hangs ∧ s.SameRun t := by
  cases hi : s.inputs with
  | nil => exact ⟨_, step_of_waits hi h.waits, passTicks_hangs 1 h⟩
  | cons x rest =>
    obtain ⟨hx, hrest⟩ := List.forall_mem_cons.1 (hi ▸ h.inputs)
    have htaken : { s with inputs := rest }.Hangs := ⟨h.phase, h.busy, h.buffer, hrest⟩
    obtain ⟨t, ht, hhangs, hsame⟩ := consume_hangs htaken hx
    exact ⟨t, (step_input hi).trans ht, hhangs, hsame.seq, hsame.code, hsame.result, hsame.avg, hsame.obs⟩

theorem State.SameRun.trans {s t u : State} (h1 : s.SameRun t) (h2 : t.SameRun u) : s.SameRun u :=
  ⟨h2.seq.trans h1.seq, h2.code.trans h1.code, h2.result.trans h1.result, h2.avg.trans h1.avg,
    h2.obs.trans h1.obs⟩

theorem runSteps_hangs (k : Nat) {s : State} (h : s.Hangs) :
    ∃ t, runSteps k s = .next t ∧ t.Hangs ∧ s.SameRun t := by
  induction k generalizing s with
  | zero => exact ⟨s, rfl, h, rfl, rfl, rfl, rfl, rfl⟩
  | succ k ih =>
    obtain ⟨t, ht, hhangs, hsame⟩ := step_hangs h
    obtain ⟨u, hu, huhangs, husame⟩ := ih hhangs
    exact ⟨u, (runSteps_of_step ht).trans hu, huhangs, hsame.trans husame⟩

/-- Settles O37. -/
theorem averagerWithoutEdgesHangs : Obligations.AveragerWithoutEdgesHangs := by
  intro s hphase hbusy hbuf hinputs k
  obtain ⟨t, ht, hhangs, hsame⟩ := runSteps_hangs k ⟨hphase, hbusy, hbuf, hinputs⟩
  exact ⟨t, ht, hsame.seq, hhangs.busy, hsame.code, hsame.result, hsame.avg, hsame.obs⟩

end Sys2Proof.Machine
end

section
/-! The stale captures (42_measure.md R170, R176): outside the averager's phases no step reads the capture
buffer, and the averager's start empties it. -/

namespace Sys2Proof.Machine

/-! A state with its capture buffer dropped -/

/-- A state with no captured timestamp. -/
def State.drained (s : State) : State := { s with capture := { s.capture with buffer := [] } }

/-- An answer with its state drained. -/
def drainedOutcome : Outcome → Outcome
  | .next t => .next t.drained
  | .fault r => .fault r
  | .refused r => .refused r

/-- Two states that are the same drained differ in the capture buffer alone. -/
theorem eq_of_drained_eq {t t' : State} (h : t'.drained = t.drained) :
    { t' with capture := { t'.capture with buffer := t.capture.buffer } } = t :=
  congrArg (fun u : State => { u with capture := { u.capture with buffer := t.capture.buffer } }) h

theorem drained_of_empty {t : State} (h : t.capture.buffer = []) : t.drained = t := by
  rw [State.drained, ← h]

theorem next_of_drainedOutcome_eq {r : Outcome} {t : State} (h : drainedOutcome r = .next t) :
    ∃ t', r = .next t' ∧ t'.drained = t := by
  cases r with
  | next t' => cases h; exact ⟨t', rfl, rfl⟩
  | fault => cases h
  | refused => cases h

/-! The sequencer in a gate phase -/

theorem gate1Step_drained (s : State) : gate1Step s.drained = (gate1Step s).drained := by
  by_cases hhigh : 0x3FFF < s.gate.count.toNat
  · by_cases hfits : s.gate.count.toNat * 256 < 2 ^ 32
    · rw [gate1Step_of_accepted hhigh hfits]
      exact gate1Step_of_accepted (s := s.drained) hhigh hfits
    · rw [gate1Step_of_overflow hhigh (Nat.not_lt.1 hfits)]
      exact gate1Step_of_overflow (s := s.drained) hhigh (Nat.not_lt.1 hfits)
  · rw [gate1Step_of_low (Nat.not_lt.1 hhigh)]
    exact gate1Step_of_low (s := s.drained) (Nat.not_lt.1 hhigh)

theorem gate2Step_drained (s : State) : gate2Step s.drained = (gate2Step s).drained := by
  rcases gate2Step_cases s with ⟨hzero, -⟩ | ⟨hmany, -⟩ | ⟨hpos, hfew, -⟩
  · have hcount : s.gate.count = 0 := BitVec.eq_of_toNat_eq hzero
    rw [gate2Step_of_zero hcount]
    exact gate2Step_of_zero (s := s.drained) hcount
  · rw [gate2Step_of_many hmany]
    exact gate2Step_of_many (s := s.drained) hmany
  · rw [gate2Step_of_few hpos hfew]
    exact gate2Step_of_few (s := s.drained) hpos hfew

/-- A sequencer that does not wait for captures takes the same turn whatever the buffer holds. -/
theorem seqTurn_drained {s : State} (h : averagerPhase s.seq = false) :
    seqTurn s.drained = (seqTurn s).drained := by
  have hseq : s.drained.seq = s.seq := rfl
  have hgate : s.drained.gate = s.gate := rfl
  rw [seqTurn, seqTurn, hseq]
  cases hs : s.seq with
  | idle => rfl
  | gate1 =>
    simp only [withExpiry, hgate]
    split
    · exact gate1Step_drained s
    · rfl
  | gate2 =>
    simp only [withExpiry, hgate]
    split
    · exact gate2Step_drained s
    · rfl
  | avgFirst | avgLoop => rw [hs] at h; cases h

/-- The timestamp counter runs on past whatever was captured. -/
theorem passTicks_drained (n : Nat) (s : State) : passTicks n s.drained = (passTicks n s).drained := by
  have hcap : advanceTimestamp n s.drained.capture =
      { advanceTimestamp n s.capture with buffer := [] } := by
    cases hen : s.capture.enabled with
    | true => rw [advanceTimestamp_on hen, advanceTimestamp_on (by exact hen)]; rfl
    | false => rw [advanceTimestamp_off hen, advanceTimestamp_off (by exact hen)]; rfl
  rw [passTicks, hcap]
  rfl

/-- Edges are captured into the buffer alone. -/
theorem passEdges_drained (n : Nat) (s : State) :
    (passEdges n s.drained).drained = (passEdges n s).drained := by
  have hcap (c : Capture) :
      { captureEdges n c with buffer := [] } = { c with buffer := [] } := by
    rw [captureEdges_frame]
  simp only [State.drained, passEdges, hcap]

theorem runAlone_drained {s : State} (h : averagerPhase s.seq = false) :
    runAlone s.drained = (runAlone s).drained := by
  have hseq : s.drained.seq = s.seq := rfl
  have hsame : seqEnabled s.drained = seqEnabled s := by
    rw [seqEnabled, seqEnabled, hseq]
    cases hs : s.seq with
    | idle | gate1 | gate2 => rfl
    | avgFirst | avgLoop => rw [hs] at h; cases h
  rw [runAlone, runAlone, hsame]
  split
  · exact seqTurn_drained h
  · exact passTicks_drained 1 s

/-! The commands and the host's accesses -/

theorem inIoMode_drained {run : State → State} (hrun : ∀ s, run s.drained = (run s).drained)
    (s : State) : inIoMode run s.drained = drainedOutcome (inIoMode run s) := by
  have hsame : s.drained.status = s.status := rfl
  rw [inIoMode, inIoMode, hsame]
  cases s.status.mode with
  | io => exact congrArg Host.Outcome.next (hrun s)
  | pwm => rfl

theorem exec_drained (i : Instr) (s : State) : exec i s.drained = drainedOutcome (exec i s) := by
  cases i with
  | pulse f d =>
    simp only [exec, execPulse]
    split
    · rfl
    · split <;> rfl
  | servo a =>
    simp only [exec, execServo]
    split <;> rfl
  | measure =>
    have hsame : s.drained.status = s.status := rfl
    rw [exec, exec, execMeasure, execMeasure, hsame]
    cases s.status.mode <;> rfl
  | read => exact inIoMode_drained (run := samplePin) (fun _ => rfl) s
  | drive l => exact inIoMode_drained (run := drivePin l) (fun _ => rfl) s
  | hiz => exact inIoMode_drained (run := releasePin) (fun _ => rfl) s

theorem writeCmd_drained (w : Word) (s : State) :
    writeCmd w s.drained = drainedOutcome (writeCmd w s) := by
  have hsame : s.drained.status = s.status := rfl
  rw [writeCmd, writeCmd, hsame]
  split
  · rfl
  · unfold runWord
    split
    · exact exec_drained _ (accept w s)
    · rfl

theorem writeReg_drained (r : Reg) (v : Word) (s : State) :
    writeReg r v s.drained = drainedOutcome (writeReg r v s) := by
  cases r
  case cmd => exact writeCmd_drained v s
  all_goals rfl

theorem selectReg_error_drained {base addr width : Nat} {o : Outcome}
    (h : selectReg base addr width = .error o) : o = drainedOutcome o := by
  rcases selectReg_error h with rfl | rfl <;> rfl

/-- No register of the window shows the buffer. -/
theorem readReg_drained (r : Reg) (s : State) : readReg r s.drained = readReg r s := by
  cases r <;> rfl

theorem busAccess_drained (a : Access) (s : State) :
    busAccess a s.drained = drainedOutcome (busAccess a s) := by
  have hsame : s.drained.params = s.params := rfl
  cases a with
  | read addr width =>
    simp only [busAccess, hsame]
    split
    · rw [readReg_drained]; rfl
    · exact selectReg_error_drained ‹_›
  | write addr width v =>
    simp only [busAccess, hsame]
    split
    · exact writeReg_drained _ v s
    · exact selectReg_error_drained ‹_›

/-! Every step outside the averager's phases -/

theorem drainedOutcome_idem (r : Outcome) : drainedOutcome (drainedOutcome r) = drainedOutcome r := by
  cases r <;> rfl

theorem consume_drained (x : Input) {s : State} (h : averagerPhase s.seq = false) :
    drainedOutcome (consume x s.drained) = drainedOutcome (consume x s) := by
  cases x with
  | bus a => rw [consume, consume, busAccess_drained, drainedOutcome_idem]
  | sequencer => rw [consume, consume, seqTurn_drained h]; rfl
  | ticks n => rw [consume, consume, passTicks_drained]; rfl
  | edges n => exact congrArg Host.Outcome.next (passEdges_drained n s)
  | level | reset => rfl

theorem step_drained {s : State} (h : averagerPhase s.seq = false) :
    drainedOutcome (step s.drained) = drainedOutcome (step s) := by
  have hsame : s.drained.inputs = s.inputs := rfl
  rw [step, step, hsame]
  cases s.inputs with
  | nil => rw [runAlone_drained h]; rfl
  | cons x rest => exact consume_drained x (s := { s with inputs := rest }) h

/-- A step into the averager from elsewhere drains the buffer (R170). -/
theorem change_startsAverager {s0 s t : State} (h : Change s0 s t) (hs : averagerPhase s.seq = false)
    (ht : t.seq = .avgFirst) : t.capture.buffer = [] := by
  cases h with
  | startAverager => rfl
  | ticks | edges | line | read | clear | nothing | refuse | interval =>
    rw [show s.seq = .avgFirst from ht] at hs
    cases hs
  | _ => cases ht

theorem step_startsAverager {s t : State} (h : step s = .next t) (hs : averagerPhase s.seq = false)
    (ht : t.seq = .avgFirst) : t.capture.buffer = [] := by
  rcases step_change h with ⟨rest, -, rfl⟩ | ⟨-, rest, hchange⟩
  · cases ht
  · exact change_startsAverager hchange hs ht

/-- Settles O40: both steps are the drained state's, drained; where the averager starts neither buffer holds
anything. -/
theorem staleCapturesChangeNothing : Obligations.StaleCapturesChangeNothing := by
  intro s t b hseq h
  have havg : averagerPhase s.seq = false :=
    Bool.eq_false_iff.2 fun havg => not_gatePhase_and_averagerPhase s.seq ⟨hseq, havg⟩
  have hdrained : drainedOutcome (step { s with capture := { s.capture with buffer := b } }) =
      .next t.drained :=
    calc drainedOutcome (step { s with capture := { s.capture with buffer := b } })
      _ = drainedOutcome (step s.drained) :=
        (step_drained (s := { s with capture := { s.capture with buffer := b } }) havg).symm
      _ = drainedOutcome (step s) := step_drained havg
      _ = .next t.drained := by rw [h]; rfl
  obtain ⟨t', ht', hsame⟩ := next_of_drainedOutcome_eq hdrained
  refine ⟨t', ht', eq_of_drained_eq hsame, fun ht => ?_⟩
  have ht'seq : t'.drained.seq = t.drained.seq := congrArg State.seq hsame
  rw [← drained_of_empty (step_startsAverager h havg ht), ← hsame,
    drained_of_empty (step_startsAverager ht' havg (ht'seq.trans ht))]

end Sys2Proof.Machine
end

section
/-! Digital I/O (43_gpio.md): READ, DRIVE and HIZ behind the precondition MODE = IO that they share. -/

namespace Sys2Proof.Machine

/-! The shared precondition (R210) -/

theorem inIoMode_of_io {s : State} (run : State → State) (h : s.status.mode = .io) :
    inIoMode run s = .next (run s) := by
  rw [inIoMode, h]

theorem inIoMode_of_pwm {s : State} (run : State → State) (h : s.status.mode = .pwm) :
    inIoMode run s = .next (failWith .precond s) := by
  rw [inIoMode, h]

theorem exec_digitalIo_of_pwm {i : Instr} {s : State} (hi : i = .read ∨ (∃ l, i = .drive l) ∨ i = .hiz)
    (h : s.status.mode = .pwm) : exec i s = .next (failWith .precond s) := by
  rcases hi with rfl | ⟨l, rfl⟩ | rfl
  · exact inIoMode_of_pwm samplePin h
  · exact inIoMode_of_pwm (drivePin l) h
  · exact inIoMode_of_pwm releasePin h

/-- Settles O19: a running command refuses every word, so these three as well. -/
theorem digitalIoNeedsIoMode : Obligations.DigitalIoNeedsIoMode :=
  fun s i hi => ⟨exec_digitalIo_of_pwm hi,
    fun rest hb => (hostCannotDisturbRunningCommand s rest hb).1 (encode i)⟩

/-! READ (R211, R214) -/

theorem exec_read_of_io {s : State} (h : s.status.mode = .io) : exec .read s = .next (samplePin s) :=
  inIoMode_of_io samplePin h

theorem pinSample_of_line {s : State} {b : Bool} (h : s.line = some b) : pinSample s = b := by
  rw [pinSample, h]

/-- Settles O20: the level is the pin's sample. -/
theorem readReturnsPinLevel : Obligations.ReadReturnsPinLevel := by
  refine fun s => ⟨fun hio => ?inIoMode, exec_digitalIo_of_pwm (.inl rfl)⟩
  exact ⟨pinSample s, fun _ => pinSample_of_line, exec_read_of_io hio⟩

/-! DRIVE (R212) -/

theorem exec_drive_of_io {s : State} (l : Bool) (h : s.status.mode = .io) :
    exec (.drive l) s = .next (drivePin l s) :=
  inIoMode_of_io (drivePin l) h

theorem pinDrive_drivePin (l : Bool) (s : State) : pinDrive (drivePin l s) = .drives l :=
  pinDrive_digitalOut rfl

theorem drivePin_drivePin (l : Bool) (s : State) : drivePin l (drivePin l s) = drivePin l s := rfl

/-- Settles O21: DRIVE stays in IO mode, so the second one drives again and finds its own level. -/
theorem driveSetsLatchAndOutput : Obligations.DriveSetsLatchAndOutput := by
  refine fun s l => ⟨fun hio => ?inIoMode, exec_digitalIo_of_pwm (.inr (.inl ⟨l, rfl⟩))⟩
  have hagain : exec (.drive l) (drivePin l s) = .next (drivePin l s) := by
    rw [exec_drive_of_io l (s := drivePin l s) hio, drivePin_drivePin]
  exact ⟨drivePin l s, exec_drive_of_io l hio, rfl, pinDrive_drivePin l s, hagain⟩

/-! HIZ (R213) -/

theorem exec_hiz_of_io {s : State} (h : s.status.mode = .io) : exec .hiz s = .next (releasePin s) :=
  inIoMode_of_io releasePin h

theorem pinDrive_releasePin (s : State) : pinDrive (releasePin s) = .highZ := pinDrive_input (.inl rfl)

/-- Settles O22. -/
theorem hizReleasesPin : Obligations.HizReleasesPin := by
  refine fun s => ⟨fun hio => ?inIoMode, exec_digitalIo_of_pwm (.inr (.inr rfl))⟩
  exact ⟨releasePin s, exec_hiz_of_io hio, rfl, pinDrive_releasePin s⟩

end Sys2Proof.Machine
end

section
/-! The completion codes of each command (60_exceptions.md R235): those of the step that accepts it, and
those a running MEASURE ends with. -/

namespace Sys2Proof.Machine

/-! The step that accepts a command -/

theorem exec_pulse_code {f d : Nat} {s t : State} (h : exec (.pulse f d) s = .next t) :
    t.status.code ∈ [Code.pwmDisabled, Code.pwmEnabled, Code.range] := by
  rcases execPulse_cases h with ⟨-, rfl⟩ | ⟨-, -, -, rfl⟩ | ⟨-, -, rfl⟩
  · simp [disablePulse]
  · simp [enablePulse]
  · simp [errorCode]

theorem exec_servo_code {a : Nat} {s t : State} (h : exec (.servo a) s = .next t) :
    t.status.code ∈ [Code.servoEnabled, Code.range] := by
  rcases execServo_cases h with ⟨-, rfl⟩ | ⟨-, rfl⟩
  · simp [enableServo]
  · simp [errorCode]

/-- A MEASURE ends at once only in a mode conflict; where it starts, CODE stays. -/
theorem exec_measure_code {s t : State} (h : exec .measure s = .next t) :
    t.status.code = .modeConflict ∨ (t.seq = .gate1 ∧ t.status.code = s.status.code) := by
  rcases execMeasure_cases h with ⟨-, rfl⟩ | ⟨-, rfl⟩
  · exact .inl rfl
  · exact .inr ⟨rfl, rfl⟩

/-- READ, DRIVE and HIZ complete with their own code or fail their shared precondition (R210). -/
theorem inIoMode_code {run : State → State} {s t : State} (h : inIoMode run s = .next t) :
    t.status.code = (run s).status.code ∨ t.status.code = .precond := by
  rcases inIoMode_cases h with ⟨-, rfl⟩ | ⟨-, rfl⟩
  · exact .inl rfl
  · exact .inr rfl

theorem exec_read_code {s t : State} (h : exec .read s = .next t) :
    t.status.code ∈ [Code.pinLevel, Code.precond] := by
  rcases inIoMode_code h with hc | hc <;> simp [hc, samplePin]

theorem exec_drive_code {l : Bool} {s t : State} (h : exec (.drive l) s = .next t) :
    t.status.code ∈ [Code.drivenHigh, Code.drivenLow, Code.precond] := by
  rcases inIoMode_code h with hc | hc
  · cases l <;> simp [hc, drivePin]
  · simp [hc]

theorem exec_hiz_code {s t : State} (h : exec .hiz s = .next t) :
    t.status.code ∈ [Code.hizSet, Code.precond] := by
  rcases inIoMode_code h with hc | hc <;> simp [hc, releasePin]

theorem step_illegal_code {s t : State} {w : Word} {rest : List Input} (ha : s.acceptsNext w rest)
    (hd : ∃ e, decode w = .error e) (h : step s = .next t) : t.status.code = .illegal := by
  have hstep := (stepRunsDecodedCommand s w rest ha).2 hd
  cases hstep.symm.trans h
  rfl

/-! The end of a running MEASURE (42_measure.md R179) -/

/-- A running command ends by `exit_measure` or `exit_measure_fail` alone: other changes of it keep BUSY,
and a command is accepted only while none runs. -/
theorem change_endCode {s0 s t : State} (h : Change s0 s t) (hb : s.status.busy = true)
    (ht : t.status.busy = false) : t.status.code ∈ [Code.tooLow, Code.measured, Code.arith] := by
  cases h with
  | exitOk c _ _ _ _ _ _ hc => rcases hc with rfl | rfl <;> simp [exitMeasure]
  | exitFail => simp [exitMeasureFail, errorCode]
  | ticks | edges | line | read | clear | nothing | refuse | rearm | startAverager | baseline
  | interval => cases hb.symm.trans ht
  | failed _ _ _ hfree | disable _ _ _ _ hfree | enable _ _ _ _ hfree | servo _ _ _ hfree
  | conflict _ _ hfree | start _ _ hfree | sample _ _ hfree | drive _ _ _ hfree | release _ _ hfree =>
    cases hb.symm.trans hfree

theorem step_endCode {s t : State} (h : step s = .next t) (hreset : ∀ rest, s.inputs ≠ .reset :: rest)
    (hb : s.status.busy = true) (ht : t.status.busy = false) :
    t.status.code ∈ [Code.tooLow, Code.measured, Code.arith] := by
  rcases step_change h with ⟨rest, hi, -⟩ | ⟨-, rest, hchange⟩
  · exact absurd hi (hreset rest)
  · exact change_endCode hchange hb ht

/-- Settles O52. -/
theorem codesOfEachCommand : Obligations.CodesOfEachCommand :=
  ⟨fun _ _ _ _ => exec_pulse_code, fun _ _ _ => exec_servo_code, fun _ _ => exec_measure_code,
    fun _ _ => step_endCode, fun _ _ => exec_read_code, fun _ _ _ => exec_drive_code,
    fun _ _ => exec_hiz_code, fun _ _ _ _ => step_illegal_code⟩

end Sys2Proof.Machine
end
